-- ==== Sys2Proof/Word.lean ====
section
/-! DEFINITION. The two widths of the machine (spec/00_scope.md R10, R12): a byte is 8 bits, a word is 16 bits.
Bits are numbered from 0, the least significant; `+` and `-` on both types wrap at their width (R14). -/

namespace Sys2Proof

/-- An unsigned integer 0 to 255 (R12). -/
abbrev Byte := BitVec 8

/-- An unsigned integer 0 to 65535 (R12). -/
abbrev Word := BitVec 16

end Sys2Proof
end

