-- ==== Sys2Proof/Config.lean ====
section
/-! DEFINITION. What the launch of the machine fixes (spec/00_scope.md R11) and the values nobody gives.
The parameters are plain data: `State.platform` holds them, and no step changes them (spec/10_state.md R21, log 5). -/

namespace Sys2Proof

/-- Backing of a region other than ROM, ECHO and UNUSABLE (spec/20_memory.md R64, R65). -/
inductive Store
  /-- reads give UNATTACHED_READ, writes are accepted and discarded (R64) -/
  | inert
  /-- every address of the region is one byte cell (R65) -/
  | ram
  deriving DecidableEq, Repr

/-- Backing of the ECHO region (spec/20_memory.md R67). -/
inductive EchoStore
  | inert
  /-- an access is performed on the WRAM cell 0x2000 below -/
  | echo
  deriving DecidableEq, Repr

/-- The parameter BACKING (spec/00_scope.md R11). ROM is always the cartridge and UNUSABLE is always inert
(spec/20_memory.md R63, R64), so neither has a field. -/
structure Backing where
  vram : Store
  xram : Store
  wram : Store
  echo : EchoStore
  oam : Store
  io : Store
  hram : Store
  ie : Store
  deriving DecidableEq, Repr

/-- The source's own state of its Memory Map, the default of R11: every region outside ROM is inert. -/
def Backing.allInert : Backing :=
  { vram := .inert, xram := .inert, wram := .inert, echo := .inert, oam := .inert, io := .inert, hram := .inert,
    ie := .inert }

/-- The instance of the Address Space behind the core's port (spec/20_memory.md R50). -/
inductive Space
  /-- the segmented Memory Map of R62 -/
  | map (b : Backing)
  /-- FlatRAM, 65536 independent byte cells (R66) -/
  | flat
  deriving DecidableEq, Repr

/-- The parameter CB_ROTSHIFT (spec/45_extended_rotate_shift.md R175). -/
inductive CbRotShift
  | admitted
  | unimplemented
  deriving DecidableEq, Repr

/-- The launch parameters of spec/00_scope.md R11 that are not contents of memory. -/
structure Platform where
  space : Space
  /-- UNATTACHED_READ: what every inert location reads as (spec/20_memory.md R64) -/
  unattachedRead : Byte
  cbRotShift : CbRotShift
  deriving DecidableEq, Repr

/-- The ten regions of the Memory Map (spec/20_memory.md R62). -/
inductive Region
  | rom | vram | xram | wram | echo | oam | unusable | io | hram | ie
  deriving DecidableEq, Repr

/-- What stands behind one address of the Address Space. -/
inductive Slot
  /-- a byte cell that reads and stores -/
  | cell (x : Word)
  /-- a byte of the cartridge image: it reads, and a write to it is discarded (spec/20_memory.md R63) -/
  | rom (x : Word)
  /-- unattached: reads UNATTACHED_READ, a write is discarded (R64) -/
  | inert
  deriving DecidableEq, Repr

/-- A free value (log 1): the byte at an address that no launch placed and no store wrote. It stands for ROM[a],
RAM_INIT(a) and IMG(a) where nobody gave them ("a model should treat it as a free input, not as zero",
spec/20_memory.md R65). It has no body, so nothing can be proved of it. -/
opaque Config.initialByte : Nat → BitVec 8

/-- A free value (log 2): UNATTACHED_READ where no launch gave it ("The source does not give the value of the
default", spec/20_memory.md R64). -/
opaque Config.unattachedRead : BitVec 8

/-- The defaults of spec/00_scope.md R11: the Memory Map with all nine regions inert, CB_ROTSHIFT = admit, and no
value for UNATTACHED_READ (logs 2 to 4). -/
def Platform.source : Platform :=
  { space := .map Backing.allInert, unattachedRead := Config.unattachedRead, cbRotShift := .admitted }

end Sys2Proof
end

