-- ==== Sys2Proof/Syntax.lean ====
section
/-! DEFINITION. The instructions as data: the operand fields of spec/30_encoding.md and `Instr`, one constructor for
each of the 296 rows of spec/opcode_table.json. Register numbers, conditions and bit numbers are part of the
constructor's name, as they are of the row's mnemonic; an immediate is an argument. -/

namespace Sys2Proof

/-- The seven 8-bit registers that are cells (spec/10_state.md R23). -/
inductive Reg8
  | a | b | c | d | e | h | l
  deriving DecidableEq, Repr

/-- The operand of an extended instruction (spec/30_encoding.md R83, R90): a register, or `(HL)`, the byte in
memory at the value of HL. -/
inductive Operand
  | reg (r : Reg8)
  | mem
  deriving DecidableEq, Repr

/-- The destinations of `LD rr,d16` (spec/30_encoding.md R84). -/
inductive Pair
  | bc | de | hl | sp
  deriving DecidableEq, Repr

/-- The 16-bit names of the register file's interface (spec/10_state.md R24 to R27). -/
inductive Reg16
  | af | bc | de | hl | sp | pc
  deriving DecidableEq, Repr

/-- The branch conditions (spec/30_encoding.md R85): not zero, zero, no carry, carry. -/
inductive Cond
  | nz | z | nc | c
  deriving DecidableEq, Repr

/-- The eleven operations of the extended table (spec/30_encoding.md R94), the bit operations with their bit index. -/
inductive ExtOp
  | rlc | rrc | rl | rr | sla | sra | swap | srl
  | bit (n : Fin 8)
  | res (n : Fin 8)
  | set (n : Fin 8)
  deriving DecidableEq, Repr

/-- The instructions of SB-ISA, one constructor per row of spec/opcode_table.json, in the table's order. -/
inductive Instr
  /-- `NOP` (R110) -/
  | nop
  /-- `LD BC,d16` (R120) -/
  | ldBC (d16 : Word)
  /-- `LD (BC),A` (R131) -/
  | stBC
  /-- `DEC B` (R147) -/
  | decB
  /-- `LD B,d8` (R121) -/
  | ldB (d8 : Byte)
  /-- `DEC C` (R147) -/
  | decC
  /-- `LD C,d8` (R121) -/
  | ldC (d8 : Byte)
  /-- `LD DE,d16` (R120) -/
  | ldDE (d16 : Word)
  /-- `LD (DE),A` (R132) -/
  | stDE
  /-- `DEC D` (R147) -/
  | decD
  /-- `LD D,d8` (R121) -/
  | ldD (d8 : Byte)
  /-- `DEC E` (R147) -/
  | decE
  /-- `LD E,d8` (R121) -/
  | ldE (d8 : Byte)
  /-- `JR NZ,r8` (R114) -/
  | jrNZ (r8 : Byte)
  /-- `LD HL,d16` (R120) -/
  | ldHL (d16 : Word)
  /-- `LD (HL+),A` (R134) -/
  | stHLInc
  /-- `DEC H` (R147) -/
  | decH
  /-- `LD H,d8` (R121) -/
  | ldH (d8 : Byte)
  /-- `JR Z,r8` (R114) -/
  | jrZ (r8 : Byte)
  /-- `DEC L` (R147) -/
  | decL
  /-- `LD L,d8` (R121) -/
  | ldL (d8 : Byte)
  /-- `JR NC,r8` (R114) -/
  | jrNC (r8 : Byte)
  /-- `LD SP,d16` (R120) -/
  | ldSP (d16 : Word)
  /-- `LD (HL-),A` (R135) -/
  | stHLDec
  /-- `JR C,r8` (R114) -/
  | jrC (r8 : Byte)
  /-- `DEC A` (R147) -/
  | decA
  /-- `LD A,d8` (R121) -/
  | ldA (d8 : Byte)
  /-- `LD (HL),A` (R133) -/
  | stHL
  /-- `XOR A` (R145) -/
  | xorA
  /-- `JP NZ,a16` (R113) -/
  | jpNZ (a16 : Word)
  /-- `JP a16` (R112) -/
  | jp (a16 : Word)
  /-- `JP Z,a16` (R113) -/
  | jpZ (a16 : Word)
  /-- `PREFIX CB` (R160): the first byte of every extended instruction, no instruction of its own. Its words
  decode to the constructors below (log 8). -/
  | prefixCB (e : Byte)
  /-- `JP NC,a16` (R113) -/
  | jpNC (a16 : Word)
  /-- `JP C,a16` (R113) -/
  | jpC (a16 : Word)
  /-- `LDH (a8),A` (R137) -/
  | ldhStore (a8 : Byte)
  /-- `LD (C),A` (R139) -/
  | stIoC
  /-- `LDH A,(a8)` (R138) -/
  | ldhLoad (a8 : Byte)
  /-- `LD A,(C)` (R140) -/
  | ldIoC
  /-- `CP d8` (R149) -/
  | cp (d8 : Byte)
  -- The extended table (R94), eight operands a row: B, C, D, E, H, L, (HL), A.
  | rlcB | rlcC | rlcD | rlcE | rlcH | rlcL | rlcHL | rlcA
  | rrcB | rrcC | rrcD | rrcE | rrcH | rrcL | rrcHL | rrcA
  | rlB | rlC | rlD | rlE | rlH | rlL | rlHL | rlA
  | rrB | rrC | rrD | rrE | rrH | rrL | rrHL | rrA
  | slaB | slaC | slaD | slaE | slaH | slaL | slaHL | slaA
  | sraB | sraC | sraD | sraE | sraH | sraL | sraHL | sraA
  | swapB | swapC | swapD | swapE | swapH | swapL | swapHL | swapA
  | srlB | srlC | srlD | srlE | srlH | srlL | srlHL | srlA
  | bit0B | bit0C | bit0D | bit0E | bit0H | bit0L | bit0HL | bit0A
  | bit1B | bit1C | bit1D | bit1E | bit1H | bit1L | bit1HL | bit1A
  | bit2B | bit2C | bit2D | bit2E | bit2H | bit2L | bit2HL | bit2A
  | bit3B | bit3C | bit3D | bit3E | bit3H | bit3L | bit3HL | bit3A
  | bit4B | bit4C | bit4D | bit4E | bit4H | bit4L | bit4HL | bit4A
  | bit5B | bit5C | bit5D | bit5E | bit5H | bit5L | bit5HL | bit5A
  | bit6B | bit6C | bit6D | bit6E | bit6H | bit6L | bit6HL | bit6A
  | bit7B | bit7C | bit7D | bit7E | bit7H | bit7L | bit7HL | bit7A
  | res0B | res0C | res0D | res0E | res0H | res0L | res0HL | res0A
  | res1B | res1C | res1D | res1E | res1H | res1L | res1HL | res1A
  | res2B | res2C | res2D | res2E | res2H | res2L | res2HL | res2A
  | res3B | res3C | res3D | res3E | res3H | res3L | res3HL | res3A
  | res4B | res4C | res4D | res4E | res4H | res4L | res4HL | res4A
  | res5B | res5C | res5D | res5E | res5H | res5L | res5HL | res5A
  | res6B | res6C | res6D | res6E | res6H | res6L | res6HL | res6A
  | res7B | res7C | res7D | res7E | res7H | res7L | res7HL | res7A
  | set0B | set0C | set0D | set0E | set0H | set0L | set0HL | set0A
  | set1B | set1C | set1D | set1E | set1H | set1L | set1HL | set1A
  | set2B | set2C | set2D | set2E | set2H | set2L | set2HL | set2A
  | set3B | set3C | set3D | set3E | set3H | set3L | set3HL | set3A
  | set4B | set4C | set4D | set4E | set4H | set4L | set4HL | set4A
  | set5B | set5C | set5D | set5E | set5H | set5L | set5HL | set5A
  | set6B | set6C | set6D | set6E | set6H | set6L | set6HL | set6A
  | set7B | set7C | set7D | set7E | set7H | set7L | set7HL | set7A
  deriving DecidableEq, Repr

end Sys2Proof
end

