-- ==== Sys2Proof/WellFormed.lean ====
section
/-! DEFINITION. Which terms of `Instr` are instructions. The types of the constructors' arguments bound every operand;
one check is left: `PREFIX CB` "is not an instruction of its own but the first byte of every extended instruction"
(spec/44_extended_bit_ops.md R160), and "no two byte patterns decode to the same instruction"
(spec/30_encoding.md R95), so its words belong to the extended constructors (log 8). -/

namespace Sys2Proof

/-- The term stands for an instruction that some bytes decode to. -/
def Instr.wellFormed (i : Instr) : Bool :=
  match i with
  | .prefixCB _ => false
  | _ => true

/-- `i` is an instruction of SB-ISA. -/
abbrev WellFormed (i : Instr) : Prop := i.wellFormed = true

end Sys2Proof
end

