-- ==== Sys2Proof/Decode.lean ====
section
/-! DEFINITION. The decoder of spec/30_encoding.md, total on any bytes and rejecting by name, and after it the encoder.
The byte order of a word (spec/20_memory.md R55) and the bit fields of the opcode bytes are here, each once. -/

namespace Sys2Proof

/-! ### The Byte/Word Codec (spec/20_memory.md R55) -/

/-- `bytes_to_word(hi, lo) = hi ++ lo` (R55). -/
def bytesToWord (hi lo : Byte) : Word := hi ++ lo

/-- `word_to_bytes(v) = (hi, lo) = (v[15:8], v[7:0])` (R55). -/
def wordToBytes (v : Word) : Byte × Byte := (v.extractLsb' 8 8, v.extractLsb' 0 8)

/-! ### The fields of an opcode byte -/

/-- The 3-bit operand field in its "fixed cyclic order" B, C, D, E, H, L, (HL), A (spec/30_encoding.md R83). -/
def operandOfField (z : BitVec 3) : Operand :=
  match z.toNat with
  | 0 => .reg .b
  | 1 => .reg .c
  | 2 => .reg .d
  | 3 => .reg .e
  | 4 => .reg .h
  | 5 => .reg .l
  | 6 => .mem
  | _ => .reg .a

/-- The operand of the extended opcode `e`, selected by `e[2:0]` (R90). -/
def operandOf (e : Byte) : Operand := operandOfField (e.extractLsb' 0 3)

/-- The bit index `n == e[5:3]` of the extended opcode `e` (R91). -/
def bitIndex (e : Byte) : Fin 8 := (e.extractLsb' 3 3).toFin

/-- The sub-group of group 0 that `e[5:3]` selects (R94). -/
def rotShiftOf (y : BitVec 3) : ExtOp :=
  match y.toNat with
  | 0 => .rlc
  | 1 => .rrc
  | 2 => .rl
  | 3 => .rr
  | 4 => .sla
  | 5 => .sra
  | 6 => .swap
  | _ => .srl

/-- The operation of the extended opcode `e`: `e[7:6]` selects the group (R90, R94). -/
def extOpOf (e : Byte) : ExtOp :=
  match (e.extractLsb' 6 2).toNat with
  | 0 => rotShiftOf (e.extractLsb' 3 3)
  | 1 => .bit (bitIndex e)
  | 2 => .res (bitIndex e)
  | _ => .set (bitIndex e)

/-- The extended opcode lies in 0x00 to 0x3F, the rotate and shift group (`e[7:6] == 0`, R90). -/
def inRotShiftGroup (e : Byte) : Bool := e.extractLsb' 6 2 == 0#2

/-! ### The extended table, a row of eight operands for each operation (R94) -/

/-- `RLC` on each operand (R176, R177). -/
def Instr.rlcOf (z : Operand) : Instr :=
  match z with
  | .reg .b => .rlcB
  | .reg .c => .rlcC
  | .reg .d => .rlcD
  | .reg .e => .rlcE
  | .reg .h => .rlcH
  | .reg .l => .rlcL
  | .mem => .rlcHL
  | .reg .a => .rlcA

/-- `RRC` on each operand (R178, R179). -/
def Instr.rrcOf (z : Operand) : Instr :=
  match z with
  | .reg .b => .rrcB
  | .reg .c => .rrcC
  | .reg .d => .rrcD
  | .reg .e => .rrcE
  | .reg .h => .rrcH
  | .reg .l => .rrcL
  | .mem => .rrcHL
  | .reg .a => .rrcA

/-- `RL` on each operand (R180, R181). -/
def Instr.rlOf (z : Operand) : Instr :=
  match z with
  | .reg .b => .rlB
  | .reg .c => .rlC
  | .reg .d => .rlD
  | .reg .e => .rlE
  | .reg .h => .rlH
  | .reg .l => .rlL
  | .mem => .rlHL
  | .reg .a => .rlA

/-- `RR` on each operand (R182, R183). -/
def Instr.rrOf (z : Operand) : Instr :=
  match z with
  | .reg .b => .rrB
  | .reg .c => .rrC
  | .reg .d => .rrD
  | .reg .e => .rrE
  | .reg .h => .rrH
  | .reg .l => .rrL
  | .mem => .rrHL
  | .reg .a => .rrA

/-- `SLA` on each operand (R184, R185). -/
def Instr.slaOf (z : Operand) : Instr :=
  match z with
  | .reg .b => .slaB
  | .reg .c => .slaC
  | .reg .d => .slaD
  | .reg .e => .slaE
  | .reg .h => .slaH
  | .reg .l => .slaL
  | .mem => .slaHL
  | .reg .a => .slaA

/-- `SRA` on each operand (R186, R187). -/
def Instr.sraOf (z : Operand) : Instr :=
  match z with
  | .reg .b => .sraB
  | .reg .c => .sraC
  | .reg .d => .sraD
  | .reg .e => .sraE
  | .reg .h => .sraH
  | .reg .l => .sraL
  | .mem => .sraHL
  | .reg .a => .sraA

/-- `SWAP` on each operand (R188, R189). -/
def Instr.swapOf (z : Operand) : Instr :=
  match z with
  | .reg .b => .swapB
  | .reg .c => .swapC
  | .reg .d => .swapD
  | .reg .e => .swapE
  | .reg .h => .swapH
  | .reg .l => .swapL
  | .mem => .swapHL
  | .reg .a => .swapA

/-- `SRL` on each operand (R190, R191). -/
def Instr.srlOf (z : Operand) : Instr :=
  match z with
  | .reg .b => .srlB
  | .reg .c => .srlC
  | .reg .d => .srlD
  | .reg .e => .srlE
  | .reg .h => .srlH
  | .reg .l => .srlL
  | .mem => .srlHL
  | .reg .a => .srlA

/-- `BIT n` on each operand (R162, R163). -/
def Instr.bitOf (n : Fin 8) (z : Operand) : Instr :=
  match n, z with
  | 0, .reg .b => .bit0B
  | 0, .reg .c => .bit0C
  | 0, .reg .d => .bit0D
  | 0, .reg .e => .bit0E
  | 0, .reg .h => .bit0H
  | 0, .reg .l => .bit0L
  | 0, .mem => .bit0HL
  | 0, .reg .a => .bit0A
  | 1, .reg .b => .bit1B
  | 1, .reg .c => .bit1C
  | 1, .reg .d => .bit1D
  | 1, .reg .e => .bit1E
  | 1, .reg .h => .bit1H
  | 1, .reg .l => .bit1L
  | 1, .mem => .bit1HL
  | 1, .reg .a => .bit1A
  | 2, .reg .b => .bit2B
  | 2, .reg .c => .bit2C
  | 2, .reg .d => .bit2D
  | 2, .reg .e => .bit2E
  | 2, .reg .h => .bit2H
  | 2, .reg .l => .bit2L
  | 2, .mem => .bit2HL
  | 2, .reg .a => .bit2A
  | 3, .reg .b => .bit3B
  | 3, .reg .c => .bit3C
  | 3, .reg .d => .bit3D
  | 3, .reg .e => .bit3E
  | 3, .reg .h => .bit3H
  | 3, .reg .l => .bit3L
  | 3, .mem => .bit3HL
  | 3, .reg .a => .bit3A
  | 4, .reg .b => .bit4B
  | 4, .reg .c => .bit4C
  | 4, .reg .d => .bit4D
  | 4, .reg .e => .bit4E
  | 4, .reg .h => .bit4H
  | 4, .reg .l => .bit4L
  | 4, .mem => .bit4HL
  | 4, .reg .a => .bit4A
  | 5, .reg .b => .bit5B
  | 5, .reg .c => .bit5C
  | 5, .reg .d => .bit5D
  | 5, .reg .e => .bit5E
  | 5, .reg .h => .bit5H
  | 5, .reg .l => .bit5L
  | 5, .mem => .bit5HL
  | 5, .reg .a => .bit5A
  | 6, .reg .b => .bit6B
  | 6, .reg .c => .bit6C
  | 6, .reg .d => .bit6D
  | 6, .reg .e => .bit6E
  | 6, .reg .h => .bit6H
  | 6, .reg .l => .bit6L
  | 6, .mem => .bit6HL
  | 6, .reg .a => .bit6A
  | 7, .reg .b => .bit7B
  | 7, .reg .c => .bit7C
  | 7, .reg .d => .bit7D
  | 7, .reg .e => .bit7E
  | 7, .reg .h => .bit7H
  | 7, .reg .l => .bit7L
  | 7, .mem => .bit7HL
  | 7, .reg .a => .bit7A

/-- `RES n` on each operand (R164, R165). -/
def Instr.resOf (n : Fin 8) (z : Operand) : Instr :=
  match n, z with
  | 0, .reg .b => .res0B
  | 0, .reg .c => .res0C
  | 0, .reg .d => .res0D
  | 0, .reg .e => .res0E
  | 0, .reg .h => .res0H
  | 0, .reg .l => .res0L
  | 0, .mem => .res0HL
  | 0, .reg .a => .res0A
  | 1, .reg .b => .res1B
  | 1, .reg .c => .res1C
  | 1, .reg .d => .res1D
  | 1, .reg .e => .res1E
  | 1, .reg .h => .res1H
  | 1, .reg .l => .res1L
  | 1, .mem => .res1HL
  | 1, .reg .a => .res1A
  | 2, .reg .b => .res2B
  | 2, .reg .c => .res2C
  | 2, .reg .d => .res2D
  | 2, .reg .e => .res2E
  | 2, .reg .h => .res2H
  | 2, .reg .l => .res2L
  | 2, .mem => .res2HL
  | 2, .reg .a => .res2A
  | 3, .reg .b => .res3B
  | 3, .reg .c => .res3C
  | 3, .reg .d => .res3D
  | 3, .reg .e => .res3E
  | 3, .reg .h => .res3H
  | 3, .reg .l => .res3L
  | 3, .mem => .res3HL
  | 3, .reg .a => .res3A
  | 4, .reg .b => .res4B
  | 4, .reg .c => .res4C
  | 4, .reg .d => .res4D
  | 4, .reg .e => .res4E
  | 4, .reg .h => .res4H
  | 4, .reg .l => .res4L
  | 4, .mem => .res4HL
  | 4, .reg .a => .res4A
  | 5, .reg .b => .res5B
  | 5, .reg .c => .res5C
  | 5, .reg .d => .res5D
  | 5, .reg .e => .res5E
  | 5, .reg .h => .res5H
  | 5, .reg .l => .res5L
  | 5, .mem => .res5HL
  | 5, .reg .a => .res5A
  | 6, .reg .b => .res6B
  | 6, .reg .c => .res6C
  | 6, .reg .d => .res6D
  | 6, .reg .e => .res6E
  | 6, .reg .h => .res6H
  | 6, .reg .l => .res6L
  | 6, .mem => .res6HL
  | 6, .reg .a => .res6A
  | 7, .reg .b => .res7B
  | 7, .reg .c => .res7C
  | 7, .reg .d => .res7D
  | 7, .reg .e => .res7E
  | 7, .reg .h => .res7H
  | 7, .reg .l => .res7L
  | 7, .mem => .res7HL
  | 7, .reg .a => .res7A

/-- `SET n` on each operand (R166, R167). -/
def Instr.setOf (n : Fin 8) (z : Operand) : Instr :=
  match n, z with
  | 0, .reg .b => .set0B
  | 0, .reg .c => .set0C
  | 0, .reg .d => .set0D
  | 0, .reg .e => .set0E
  | 0, .reg .h => .set0H
  | 0, .reg .l => .set0L
  | 0, .mem => .set0HL
  | 0, .reg .a => .set0A
  | 1, .reg .b => .set1B
  | 1, .reg .c => .set1C
  | 1, .reg .d => .set1D
  | 1, .reg .e => .set1E
  | 1, .reg .h => .set1H
  | 1, .reg .l => .set1L
  | 1, .mem => .set1HL
  | 1, .reg .a => .set1A
  | 2, .reg .b => .set2B
  | 2, .reg .c => .set2C
  | 2, .reg .d => .set2D
  | 2, .reg .e => .set2E
  | 2, .reg .h => .set2H
  | 2, .reg .l => .set2L
  | 2, .mem => .set2HL
  | 2, .reg .a => .set2A
  | 3, .reg .b => .set3B
  | 3, .reg .c => .set3C
  | 3, .reg .d => .set3D
  | 3, .reg .e => .set3E
  | 3, .reg .h => .set3H
  | 3, .reg .l => .set3L
  | 3, .mem => .set3HL
  | 3, .reg .a => .set3A
  | 4, .reg .b => .set4B
  | 4, .reg .c => .set4C
  | 4, .reg .d => .set4D
  | 4, .reg .e => .set4E
  | 4, .reg .h => .set4H
  | 4, .reg .l => .set4L
  | 4, .mem => .set4HL
  | 4, .reg .a => .set4A
  | 5, .reg .b => .set5B
  | 5, .reg .c => .set5C
  | 5, .reg .d => .set5D
  | 5, .reg .e => .set5E
  | 5, .reg .h => .set5H
  | 5, .reg .l => .set5L
  | 5, .mem => .set5HL
  | 5, .reg .a => .set5A
  | 6, .reg .b => .set6B
  | 6, .reg .c => .set6C
  | 6, .reg .d => .set6D
  | 6, .reg .e => .set6E
  | 6, .reg .h => .set6H
  | 6, .reg .l => .set6L
  | 6, .mem => .set6HL
  | 6, .reg .a => .set6A
  | 7, .reg .b => .set7B
  | 7, .reg .c => .set7C
  | 7, .reg .d => .set7D
  | 7, .reg .e => .set7E
  | 7, .reg .h => .set7H
  | 7, .reg .l => .set7L
  | 7, .mem => .set7HL
  | 7, .reg .a => .set7A

/-- The instruction of an operation and an operand of the extended table (R94). -/
def Instr.extOf (op : ExtOp) (z : Operand) : Instr :=
  match op with
  | .rlc => Instr.rlcOf z
  | .rrc => Instr.rrcOf z
  | .rl => Instr.rlOf z
  | .rr => Instr.rrOf z
  | .sla => Instr.slaOf z
  | .sra => Instr.sraOf z
  | .swap => Instr.swapOf z
  | .srl => Instr.srlOf z
  | .bit n => Instr.bitOf n z
  | .res n => Instr.resOf n z
  | .set n => Instr.setOf n z

/-- The extended table: the instruction of each of the 256 extended opcodes (R94). -/
def extended (e : Byte) : Instr := Instr.extOf (extOpOf e) (operandOf e)

/-! ### The families of the primary table that a field indexes (R82) -/

/-- `LD rr,d16` (R120). -/
def Instr.ldPairOf (x : Pair) (d16 : Word) : Instr :=
  match x with
  | .bc => .ldBC d16
  | .de => .ldDE d16
  | .hl => .ldHL d16
  | .sp => .ldSP d16

/-- `LD r,d8` (R121). -/
def Instr.ldRegOf (x : Reg8) (d8 : Byte) : Instr :=
  match x with
  | .a => .ldA d8
  | .b => .ldB d8
  | .c => .ldC d8
  | .d => .ldD d8
  | .e => .ldE d8
  | .h => .ldH d8
  | .l => .ldL d8

/-- `DEC r` (R147). -/
def Instr.decOf (x : Reg8) : Instr :=
  match x with
  | .a => .decA
  | .b => .decB
  | .c => .decC
  | .d => .decD
  | .e => .decE
  | .h => .decH
  | .l => .decL

/-- `JP cc,a16` (R113). -/
def Instr.jpOf (x : Cond) (a16 : Word) : Instr :=
  match x with
  | .nz => .jpNZ a16
  | .z => .jpZ a16
  | .nc => .jpNC a16
  | .c => .jpC a16

/-- `JR cc,r8` (R114). -/
def Instr.jrOf (x : Cond) (r8 : Byte) : Instr :=
  match x with
  | .nz => .jrNZ r8
  | .z => .jrZ r8
  | .nc => .jrNC r8
  | .c => .jrC r8

/-! ### The primary table -/

/-- What follows a primary opcode byte, by format (R80). -/
inductive Shape
  /-- `OP`: nothing follows -/
  | op (i : Instr)
  /-- `OP_D8` and `OP_R8`: one byte follows -/
  | imm8 (mk : Byte → Instr)
  /-- `OP_D16`: two bytes follow, the low byte first (R87) -/
  | imm16 (mk : Word → Instr)
  /-- `CB_OP`: the extended opcode follows -/
  | ext

/-- The primary table: the 40 admitted opcode bytes (R92); every other byte is unimplemented (R93). -/
def primary (op : Byte) : Option Shape :=
  match op.toNat with
  | 0x00 => some (.op .nop)
  | 0x01 => some (.imm16 .ldBC)
  | 0x02 => some (.op .stBC)
  | 0x05 => some (.op .decB)
  | 0x06 => some (.imm8 .ldB)
  | 0x0D => some (.op .decC)
  | 0x0E => some (.imm8 .ldC)
  | 0x11 => some (.imm16 .ldDE)
  | 0x12 => some (.op .stDE)
  | 0x15 => some (.op .decD)
  | 0x16 => some (.imm8 .ldD)
  | 0x1D => some (.op .decE)
  | 0x1E => some (.imm8 .ldE)
  | 0x20 => some (.imm8 .jrNZ)
  | 0x21 => some (.imm16 .ldHL)
  | 0x22 => some (.op .stHLInc)
  | 0x25 => some (.op .decH)
  | 0x26 => some (.imm8 .ldH)
  | 0x28 => some (.imm8 .jrZ)
  | 0x2D => some (.op .decL)
  | 0x2E => some (.imm8 .ldL)
  | 0x30 => some (.imm8 .jrNC)
  | 0x31 => some (.imm16 .ldSP)
  | 0x32 => some (.op .stHLDec)
  | 0x38 => some (.imm8 .jrC)
  | 0x3D => some (.op .decA)
  | 0x3E => some (.imm8 .ldA)
  | 0x77 => some (.op .stHL)
  | 0xAF => some (.op .xorA)
  | 0xC2 => some (.imm16 .jpNZ)
  | 0xC3 => some (.imm16 .jp)
  | 0xCA => some (.imm16 .jpZ)
  | 0xCB => some (.ext)
  | 0xD2 => some (.imm16 .jpNC)
  | 0xDA => some (.imm16 .jpC)
  | 0xE0 => some (.imm8 .ldhStore)
  | 0xE2 => some (.op .stIoC)
  | 0xF0 => some (.imm8 .ldhLoad)
  | 0xF2 => some (.op .ldIoC)
  | 0xFE => some (.imm8 .cp)
  | _ => none

/-- The length in bytes, "a function of byte 0 alone" (R81). -/
def Shape.length (s : Shape) : Nat :=
  match s with
  | .op _ => 1
  | .imm8 _ => 2
  | .imm16 _ => 3
  | .ext => 2

/-! ### Decoding a list of bytes -/

/-- Why bytes are no instruction. -/
inductive DecodeError
  /-- byte 0 is one of the 216 bytes of R93 -/
  | unimplemented (opcode : Byte)
  /-- the list ends before the instruction does; it cannot happen at the machine, whose fetch wraps (R32) -/
  | truncated
  deriving DecidableEq, Repr

/-- The first instruction of a list of bytes and the bytes after it. The table is read with every extended opcode
assigned (R94); the parameter CB_ROTSHIFT is a check of the fetch (R96, `Machine.fetchInstr`). -/
def decode (bytes : List Byte) : Except DecodeError (Instr × List Byte) :=
  match bytes with
  | [] => .error .truncated
  | op :: rest =>
    match primary op, rest with
    | none, _ => .error (.unimplemented op)
    | some (.op i), _ => .ok (i, rest)
    | some (.imm8 mk), b :: rest => .ok (mk b, rest)
    | some (.imm16 mk), lo :: hi :: rest => .ok (mk (bytesToWord hi lo), rest)
    | some .ext, e :: rest => .ok (extended e, rest)
    | some _, _ => .error .truncated

/-! ### The words of spec/opcode_table.json -/

/-- The lowest `k` bytes of `w`, the most significant first. -/
def bigEndianBytes (k w : Nat) : List Byte :=
  match k with
  | 0 => []
  | k + 1 => BitVec.ofNat 8 (w >>> (8 * k)) :: bigEndianBytes k w

/-- The bytes are one whole instruction. -/
def isWholeInstr (bytes : List Byte) : Bool :=
  match decode bytes with
  | .ok (_, []) => true
  | _ => false

/-- The bytes of a row's word in fetch order. The table writes byte 0 leftmost, so its numbers hold byte 0 in their
most significant byte ("this is fetch order, not a little-endian number", R99); where that reading is not one
instruction of `nbits` bits and the reading with byte 0 in the least significant byte is, the latter (log 9). -/
def tableBytes (nbits w : Nat) : List Byte :=
  let bytes := bigEndianBytes ((nbits + 7) / 8) w
  if isWholeInstr bytes then bytes else if isWholeInstr bytes.reverse then bytes.reverse else bytes

/-- The longest instruction's worth of bytes that starts with the row's word, the bytes after it zero. -/
def instrBytes (nbits w : Nat) : List Byte := (tableBytes nbits w ++ [0x00, 0x00, 0x00]).take 3

/-- The instruction the decoder reads from a row's word. -/
def decodeTableWord (nbits w : Nat) : Option Instr :=
  match decode (instrBytes nbits w) with
  | .ok (i, _) => some i
  | .error _ => none

/-! ### The encoder -/

/-- Two bytes with the prefix first (R80, format `CB_OP`). -/
def cbOp (e : Byte) : List Byte := [0xCB, e]

/-- An opcode and a word, its low byte first (R80, format `OP_D16`; R87). -/
def opD16 (op : Byte) (v : Word) : List Byte := [op, (wordToBytes v).2, (wordToBytes v).1]

/-- The bytes of an instruction in fetch order, from the tables of R92 and R94. -/
def encode (i : Instr) : List Byte :=
  match i with
  | .nop => [0x00]
  | .ldBC v => opD16 0x01 v
  | .stBC => [0x02]
  | .decB => [0x05]
  | .ldB v => [0x06, v]
  | .decC => [0x0D]
  | .ldC v => [0x0E, v]
  | .ldDE v => opD16 0x11 v
  | .stDE => [0x12]
  | .decD => [0x15]
  | .ldD v => [0x16, v]
  | .decE => [0x1D]
  | .ldE v => [0x1E, v]
  | .jrNZ v => [0x20, v]
  | .ldHL v => opD16 0x21 v
  | .stHLInc => [0x22]
  | .decH => [0x25]
  | .ldH v => [0x26, v]
  | .jrZ v => [0x28, v]
  | .decL => [0x2D]
  | .ldL v => [0x2E, v]
  | .jrNC v => [0x30, v]
  | .ldSP v => opD16 0x31 v
  | .stHLDec => [0x32]
  | .jrC v => [0x38, v]
  | .decA => [0x3D]
  | .ldA v => [0x3E, v]
  | .stHL => [0x77]
  | .xorA => [0xAF]
  | .jpNZ v => opD16 0xC2 v
  | .jp v => opD16 0xC3 v
  | .jpZ v => opD16 0xCA v
  | .prefixCB e => cbOp e
  | .jpNC v => opD16 0xD2 v
  | .jpC v => opD16 0xDA v
  | .ldhStore v => [0xE0, v]
  | .stIoC => [0xE2]
  | .ldhLoad v => [0xF0, v]
  | .ldIoC => [0xF2]
  | .cp v => [0xFE, v]
  | .rlcB => cbOp 0x00
  | .rlcC => cbOp 0x01
  | .rlcD => cbOp 0x02
  | .rlcE => cbOp 0x03
  | .rlcH => cbOp 0x04
  | .rlcL => cbOp 0x05
  | .rlcHL => cbOp 0x06
  | .rlcA => cbOp 0x07
  | .rrcB => cbOp 0x08
  | .rrcC => cbOp 0x09
  | .rrcD => cbOp 0x0A
  | .rrcE => cbOp 0x0B
  | .rrcH => cbOp 0x0C
  | .rrcL => cbOp 0x0D
  | .rrcHL => cbOp 0x0E
  | .rrcA => cbOp 0x0F
  | .rlB => cbOp 0x10
  | .rlC => cbOp 0x11
  | .rlD => cbOp 0x12
  | .rlE => cbOp 0x13
  | .rlH => cbOp 0x14
  | .rlL => cbOp 0x15
  | .rlHL => cbOp 0x16
  | .rlA => cbOp 0x17
  | .rrB => cbOp 0x18
  | .rrC => cbOp 0x19
  | .rrD => cbOp 0x1A
  | .rrE => cbOp 0x1B
  | .rrH => cbOp 0x1C
  | .rrL => cbOp 0x1D
  | .rrHL => cbOp 0x1E
  | .rrA => cbOp 0x1F
  | .slaB => cbOp 0x20
  | .slaC => cbOp 0x21
  | .slaD => cbOp 0x22
  | .slaE => cbOp 0x23
  | .slaH => cbOp 0x24
  | .slaL => cbOp 0x25
  | .slaHL => cbOp 0x26
  | .slaA => cbOp 0x27
  | .sraB => cbOp 0x28
  | .sraC => cbOp 0x29
  | .sraD => cbOp 0x2A
  | .sraE => cbOp 0x2B
  | .sraH => cbOp 0x2C
  | .sraL => cbOp 0x2D
  | .sraHL => cbOp 0x2E
  | .sraA => cbOp 0x2F
  | .swapB => cbOp 0x30
  | .swapC => cbOp 0x31
  | .swapD => cbOp 0x32
  | .swapE => cbOp 0x33
  | .swapH => cbOp 0x34
  | .swapL => cbOp 0x35
  | .swapHL => cbOp 0x36
  | .swapA => cbOp 0x37
  | .srlB => cbOp 0x38
  | .srlC => cbOp 0x39
  | .srlD => cbOp 0x3A
  | .srlE => cbOp 0x3B
  | .srlH => cbOp 0x3C
  | .srlL => cbOp 0x3D
  | .srlHL => cbOp 0x3E
  | .srlA => cbOp 0x3F
  | .bit0B => cbOp 0x40
  | .bit0C => cbOp 0x41
  | .bit0D => cbOp 0x42
  | .bit0E => cbOp 0x43
  | .bit0H => cbOp 0x44
  | .bit0L => cbOp 0x45
  | .bit0HL => cbOp 0x46
  | .bit0A => cbOp 0x47
  | .bit1B => cbOp 0x48
  | .bit1C => cbOp 0x49
  | .bit1D => cbOp 0x4A
  | .bit1E => cbOp 0x4B
  | .bit1H => cbOp 0x4C
  | .bit1L => cbOp 0x4D
  | .bit1HL => cbOp 0x4E
  | .bit1A => cbOp 0x4F
  | .bit2B => cbOp 0x50
  | .bit2C => cbOp 0x51
  | .bit2D => cbOp 0x52
  | .bit2E => cbOp 0x53
  | .bit2H => cbOp 0x54
  | .bit2L => cbOp 0x55
  | .bit2HL => cbOp 0x56
  | .bit2A => cbOp 0x57
  | .bit3B => cbOp 0x58
  | .bit3C => cbOp 0x59
  | .bit3D => cbOp 0x5A
  | .bit3E => cbOp 0x5B
  | .bit3H => cbOp 0x5C
  | .bit3L => cbOp 0x5D
  | .bit3HL => cbOp 0x5E
  | .bit3A => cbOp 0x5F
  | .bit4B => cbOp 0x60
  | .bit4C => cbOp 0x61
  | .bit4D => cbOp 0x62
  | .bit4E => cbOp 0x63
  | .bit4H => cbOp 0x64
  | .bit4L => cbOp 0x65
  | .bit4HL => cbOp 0x66
  | .bit4A => cbOp 0x67
  | .bit5B => cbOp 0x68
  | .bit5C => cbOp 0x69
  | .bit5D => cbOp 0x6A
  | .bit5E => cbOp 0x6B
  | .bit5H => cbOp 0x6C
  | .bit5L => cbOp 0x6D
  | .bit5HL => cbOp 0x6E
  | .bit5A => cbOp 0x6F
  | .bit6B => cbOp 0x70
  | .bit6C => cbOp 0x71
  | .bit6D => cbOp 0x72
  | .bit6E => cbOp 0x73
  | .bit6H => cbOp 0x74
  | .bit6L => cbOp 0x75
  | .bit6HL => cbOp 0x76
  | .bit6A => cbOp 0x77
  | .bit7B => cbOp 0x78
  | .bit7C => cbOp 0x79
  | .bit7D => cbOp 0x7A
  | .bit7E => cbOp 0x7B
  | .bit7H => cbOp 0x7C
  | .bit7L => cbOp 0x7D
  | .bit7HL => cbOp 0x7E
  | .bit7A => cbOp 0x7F
  | .res0B => cbOp 0x80
  | .res0C => cbOp 0x81
  | .res0D => cbOp 0x82
  | .res0E => cbOp 0x83
  | .res0H => cbOp 0x84
  | .res0L => cbOp 0x85
  | .res0HL => cbOp 0x86
  | .res0A => cbOp 0x87
  | .res1B => cbOp 0x88
  | .res1C => cbOp 0x89
  | .res1D => cbOp 0x8A
  | .res1E => cbOp 0x8B
  | .res1H => cbOp 0x8C
  | .res1L => cbOp 0x8D
  | .res1HL => cbOp 0x8E
  | .res1A => cbOp 0x8F
  | .res2B => cbOp 0x90
  | .res2C => cbOp 0x91
  | .res2D => cbOp 0x92
  | .res2E => cbOp 0x93
  | .res2H => cbOp 0x94
  | .res2L => cbOp 0x95
  | .res2HL => cbOp 0x96
  | .res2A => cbOp 0x97
  | .res3B => cbOp 0x98
  | .res3C => cbOp 0x99
  | .res3D => cbOp 0x9A
  | .res3E => cbOp 0x9B
  | .res3H => cbOp 0x9C
  | .res3L => cbOp 0x9D
  | .res3HL => cbOp 0x9E
  | .res3A => cbOp 0x9F
  | .res4B => cbOp 0xA0
  | .res4C => cbOp 0xA1
  | .res4D => cbOp 0xA2
  | .res4E => cbOp 0xA3
  | .res4H => cbOp 0xA4
  | .res4L => cbOp 0xA5
  | .res4HL => cbOp 0xA6
  | .res4A => cbOp 0xA7
  | .res5B => cbOp 0xA8
  | .res5C => cbOp 0xA9
  | .res5D => cbOp 0xAA
  | .res5E => cbOp 0xAB
  | .res5H => cbOp 0xAC
  | .res5L => cbOp 0xAD
  | .res5HL => cbOp 0xAE
  | .res5A => cbOp 0xAF
  | .res6B => cbOp 0xB0
  | .res6C => cbOp 0xB1
  | .res6D => cbOp 0xB2
  | .res6E => cbOp 0xB3
  | .res6H => cbOp 0xB4
  | .res6L => cbOp 0xB5
  | .res6HL => cbOp 0xB6
  | .res6A => cbOp 0xB7
  | .res7B => cbOp 0xB8
  | .res7C => cbOp 0xB9
  | .res7D => cbOp 0xBA
  | .res7E => cbOp 0xBB
  | .res7H => cbOp 0xBC
  | .res7L => cbOp 0xBD
  | .res7HL => cbOp 0xBE
  | .res7A => cbOp 0xBF
  | .set0B => cbOp 0xC0
  | .set0C => cbOp 0xC1
  | .set0D => cbOp 0xC2
  | .set0E => cbOp 0xC3
  | .set0H => cbOp 0xC4
  | .set0L => cbOp 0xC5
  | .set0HL => cbOp 0xC6
  | .set0A => cbOp 0xC7
  | .set1B => cbOp 0xC8
  | .set1C => cbOp 0xC9
  | .set1D => cbOp 0xCA
  | .set1E => cbOp 0xCB
  | .set1H => cbOp 0xCC
  | .set1L => cbOp 0xCD
  | .set1HL => cbOp 0xCE
  | .set1A => cbOp 0xCF
  | .set2B => cbOp 0xD0
  | .set2C => cbOp 0xD1
  | .set2D => cbOp 0xD2
  | .set2E => cbOp 0xD3
  | .set2H => cbOp 0xD4
  | .set2L => cbOp 0xD5
  | .set2HL => cbOp 0xD6
  | .set2A => cbOp 0xD7
  | .set3B => cbOp 0xD8
  | .set3C => cbOp 0xD9
  | .set3D => cbOp 0xDA
  | .set3E => cbOp 0xDB
  | .set3H => cbOp 0xDC
  | .set3L => cbOp 0xDD
  | .set3HL => cbOp 0xDE
  | .set3A => cbOp 0xDF
  | .set4B => cbOp 0xE0
  | .set4C => cbOp 0xE1
  | .set4D => cbOp 0xE2
  | .set4E => cbOp 0xE3
  | .set4H => cbOp 0xE4
  | .set4L => cbOp 0xE5
  | .set4HL => cbOp 0xE6
  | .set4A => cbOp 0xE7
  | .set5B => cbOp 0xE8
  | .set5C => cbOp 0xE9
  | .set5D => cbOp 0xEA
  | .set5E => cbOp 0xEB
  | .set5H => cbOp 0xEC
  | .set5L => cbOp 0xED
  | .set5HL => cbOp 0xEE
  | .set5A => cbOp 0xEF
  | .set6B => cbOp 0xF0
  | .set6C => cbOp 0xF1
  | .set6D => cbOp 0xF2
  | .set6E => cbOp 0xF3
  | .set6H => cbOp 0xF4
  | .set6L => cbOp 0xF5
  | .set6HL => cbOp 0xF6
  | .set6A => cbOp 0xF7
  | .set7B => cbOp 0xF8
  | .set7C => cbOp 0xF9
  | .set7D => cbOp 0xFA
  | .set7E => cbOp 0xFB
  | .set7H => cbOp 0xFC
  | .set7L => cbOp 0xFD
  | .set7HL => cbOp 0xFE
  | .set7A => cbOp 0xFF

end Sys2Proof
end

