-- ==== Sys2Proof/Machine/State.lean ====
section
/-! DEFINITION. The state of the machine as plain data: the 92 bits of the core (spec/10_state.md R20), the contents of
the Address Space (R21), the launch parameters (spec/00_scope.md R11) and what the last step returned; its reset; and
the reasons a step can stop. -/

namespace Sys2Proof.Machine

/-- The four flags, the content of register F (spec/10_state.md R35, R36): Zero, Subtract, HalfCarry, Carry. -/
structure Flags where
  z : Bool
  n : Bool
  h : Bool
  c : Bool
  deriving DecidableEq, Repr

/-- The stored bytes, (address, byte) pairs with strictly rising addresses (`Memory.wf`). An address that is not listed
stores nothing: no entry can equal what it reads as, for that is a free value (log 1). -/
abbrev Memory := List Host.Cell

/-- What a memory access is for (spec/20_memory.md R57, R74). -/
inductive AccessKind
  | fetch | read | write
  deriving DecidableEq, Repr

/-- One memory access of a step: the byte read, or the byte given to the write (spec/20_memory.md R74, log 7). -/
structure Access where
  kind : AccessKind
  addr : Word
  byte : Byte
  deriving DecidableEq, Repr

structure State where
  a : Byte
  b : Byte
  c : Byte
  d : Byte
  e : Byte
  h : Byte
  l : Byte
  flags : Flags
  sp : Word
  pc : Word
  mem : Memory
  /-- the launch parameters; no step changes them (spec/10_state.md R21) -/
  platform : Platform
  /-- the value of `Ok(cycles)` of the last step (spec/70_reset_and_hazards.md R235); no rule reads it -/
  cycles : Nat
  /-- the memory accesses of the last completed step in order (spec/20_memory.md R74), those of a step that faults being in
  its `Fault`; no rule reads it -/
  accesses : List Access
  deriving DecidableEq, Repr

/-- Power-up with nothing placed: the core as spec/10_state.md R44 says, the default launch parameters, no stored
byte, and no step returned yet (logs 1 to 7). -/
def State.reset : State :=
  { a := 0x01, b := 0x00, c := 0x13, d := 0x00, e := 0xD8, h := 0x01, l := 0x4D,
    flags := { z := true, n := false, h := true, c := true },
    sp := 0xFFFE, pc := 0x0100,
    mem := [], platform := Platform.source, cycles := 0, accesses := [] }

/-- The record `UnimplementedOpcode(prefixed, opcode, pc)`, "the return value of the step, handed to the host"; "no other
information is recorded" in it (spec/60_exceptions.md R200, R202). -/
structure FaultRecord where
  prefixed : Bool
  opcode : Byte
  pc : Word
  deriving DecidableEq, Repr

/-- Why the machine stops with a fault. -/
inductive Fault
  /-- `UnimplementedOpcode`, the one fault of the core: the record of spec/60_exceptions.md R202 and, beside it, the fetch
  reads of the faulting step, which "have happened" (spec/20_memory.md R74, log 7). Raised by the fetch (`fetchInstr`)
  and by nothing else. Safe: it is the spec's own fault, and the run ends there (R203). -/
  | unimplementedOpcode (record : FaultRecord) (accesses : List Access)
  deriving DecidableEq, Repr

/-- Why a run is refused. -/
inductive Refusal
  /-- An instruction that has no meaning yet, by its mnemonic. Raised by no arm of `exec`: every instruction has its
  meaning. Safe. -/
  | notModelled (mnemonic : String)
  /-- `MalformedROM`: the image is not exactly 0x8000 bytes (spec/60_exceptions.md R206). Raised by `launch`, never by a
  step. Safe. -/
  | malformedRom
  /-- ECHO mirrors a WRAM that is not RAM-backed, which is not legal (spec/20_memory.md R67). Raised by `launch`, never
  by a step. Safe. -/
  | illegalBacking
  deriving DecidableEq, Repr

/-- What one step, or one meaning, answers. -/
abbrev Result := Host.Outcome State Fault Refusal

end Sys2Proof.Machine
end

