-- ==== Sys2Proof/Machine/Flags.lean ====
section
/-! DEFINITION. Every flag computation of the spec, and the packing of the flags into F. -/

namespace Sys2Proof.Machine

/-- F as a byte: `Z ++ N ++ H ++ C ++ 0b0000` (spec/10_state.md R36). -/
def packFlags (f : Flags) : Byte :=
  BitVec.ofBool f.z ++ BitVec.ofBool f.n ++ BitVec.ofBool f.h ++ BitVec.ofBool f.c ++ 0#4

/-- The flags a byte written to F leaves: bits 7 to 4, the low nibble dropped (spec/10_state.md R26, R39). -/
def unpackFlags (v : Byte) : Flags :=
  { z := v.getLsbD 7, n := v.getLsbD 6, h := v.getLsbD 5, c := v.getLsbD 4 }

/-- What `sub8` answers. -/
structure Sub8Result where
  res : Byte
  borrow : Bool
  half : Bool
  deriving DecidableEq, Repr

/-- The 8-bit subtraction primitive (spec/43_alu.md R146). -/
def sub8 (a b : Byte) : Sub8Result :=
  { res := a - b
    borrow := decide (a.toNat < b.toNat)
    half := decide ((a &&& 0x0F).toNat < (b &&& 0x0F).toNat) }

/-- The flags `XOR A` leaves, "whatever A held" (spec/43_alu.md R145). -/
def flagsAfterXor : Flags := { z := true, n := false, h := false, c := false }

/-- The flags after `DEC r` of `old`: Z, N, H written, C kept (spec/43_alu.md R147). -/
def flagsAfterDec (old : Byte) (f : Flags) : Flags :=
  { z := (sub8 old 1).res == 0, n := true, h := (sub8 old 1).half, c := f.c }

/-- The flags after `CP d8` of A with `n`: all four written (spec/43_alu.md R149). -/
def flagsAfterCp (a n : Byte) : Flags :=
  { z := (sub8 a n).res == 0, n := true, h := (sub8 a n).half, c := (sub8 a n).borrow }

/-- The flags after `BIT n` of `v`: Z is the negation of the bit, N cleared, H set, C kept
(spec/44_extended_bit_ops.md R162; spec/90_conflicts.md C3). -/
def flagsAfterBit (n : Fin 8) (v : Byte) (f : Flags) : Flags :=
  { z := !v.getLsbD n.val, n := false, h := true, c := f.c }

/-- The flags after a rotate, shift or swap with result `res` and carry `out` (spec/45_extended_rotate_shift.md
R176 to R191). -/
def flagsAfterRotShift (res : Byte) (out : Bool) : Flags :=
  { z := res == 0, n := false, h := false, c := out }

end Sys2Proof.Machine
end

