-- ==== Sys2Proof/Machine/Ops.lean ====
section
/-! DEFINITION. The named operations over registers and memory: the register file's interface (spec/10_state.md R23 to
R28), the stored bytes, the Address Space port (spec/20_memory.md R50 to R54) with its two instances, the end of an
instruction, and the one fault. -/

namespace Sys2Proof.Machine

/-! ### Registers -/

/-- `x[r]` (spec/00_scope.md R13). -/
def State.get8 (s : State) (r : Reg8) : Byte :=
  match r with
  | .a => s.a
  | .b => s.b
  | .c => s.c
  | .d => s.d
  | .e => s.e
  | .h => s.h
  | .l => s.l

/-- `x[r] <- v` (spec/00_scope.md R13). -/
def State.set8 (s : State) (r : Reg8) (v : Byte) : State :=
  match r with
  | .a => { s with a := v }
  | .b => { s with b := v }
  | .c => { s with c := v }
  | .d => { s with d := v }
  | .e => { s with e := v }
  | .h => { s with h := v }
  | .l => { s with l := v }

def State.setFlags (s : State) (f : Flags) : State := { s with flags := f }

def State.setPc (s : State) (v : Word) : State := { s with pc := v }

/-- `xx[p]`: a pair is a view of its two halves, the first-named the high byte (spec/10_state.md R24 to R27). -/
def State.get16 (s : State) (p : Reg16) : Word :=
  match p with
  | .af => bytesToWord s.a (packFlags s.flags)
  | .bc => bytesToWord s.b s.c
  | .de => bytesToWord s.d s.e
  | .hl => bytesToWord s.h s.l
  | .sp => s.sp
  | .pc => s.pc

/-- `xx[p] <- v`: both halves at once; AF drops the low nibble (spec/10_state.md R24 to R27). -/
def State.set16 (s : State) (p : Reg16) (v : Word) : State :=
  match p with
  | .af => { s with a := (wordToBytes v).1, flags := unpackFlags (wordToBytes v).2 }
  | .bc => { s with b := (wordToBytes v).1, c := (wordToBytes v).2 }
  | .de => { s with d := (wordToBytes v).1, e := (wordToBytes v).2 }
  | .hl => { s with h := (wordToBytes v).1, l := (wordToBytes v).2 }
  | .sp => { s with sp := v }
  | .pc => { s with pc := v }

/-- The register name of a destination of `LD rr,d16` (spec/30_encoding.md R84). -/
def pairName (p : Pair) : Reg16 :=
  match p with
  | .bc => .bc
  | .de => .de
  | .hl => .hl
  | .sp => .sp

/-- The cells' increment and decrement, with the resulting value and whether it wrapped (spec/10_state.md R28). -/
def inc8 (v : Byte) : Byte × Bool := (v + 1, v == 0xFF)

def dec8 (v : Byte) : Byte × Bool := (v - 1, v == 0x00)

def inc16 (v : Word) : Word × Bool := (v + 1, v == 0xFFFF)

def dec16 (v : Word) : Word × Bool := (v - 1, v == 0x0000)

/-! ### Stored bytes -/

/-- The stored byte of an address, if it has one. -/
def Memory.lookup (m : Memory) (a : Nat) : Option Byte :=
  match m with
  | [] => none
  | (b, v) :: m => if a = b then some v else Memory.lookup m a

/-- Stores a byte, keeping the addresses strictly rising. -/
def Memory.store (m : Memory) (a : Nat) (v : Byte) : Memory :=
  match m with
  | [] => [(a, v)]
  | (b, w) :: m =>
    if a < b then (a, v) :: (b, w) :: m
    else if a = b then (a, v) :: m
    else (b, w) :: Memory.store m a v

/-- The addresses rise strictly from `lo` on and stay below 0x10000 (spec/10_state.md R42). -/
def Memory.risesFrom (lo : Nat) (m : Memory) : Bool :=
  match m with
  | [] => true
  | (a, _) :: m => decide (lo ≤ a) && decide (a < 0x10000) && Memory.risesFrom (a + 1) m

/-- The canonical form of memory. -/
def Memory.wf (m : Memory) : Bool := Memory.risesFrom 0 m

/-- What a cell holds: the stored byte, or the free initial value of a byte nobody placed (log 1). -/
def Memory.byteAt (m : Memory) (x : Word) : Byte := (Memory.lookup m x.toNat).getD (Config.initialByte x.toNat)

/-! ### The Address Space -/

/-- The region of an address, "all bounds inclusive" (spec/20_memory.md R62). -/
def regionOf (a : Word) : Region :=
  if a.toNat ≤ 0x7FFF then .rom
  else if a.toNat ≤ 0x9FFF then .vram
  else if a.toNat ≤ 0xBFFF then .xram
  else if a.toNat ≤ 0xDFFF then .wram
  else if a.toNat ≤ 0xFDFF then .echo
  else if a.toNat ≤ 0xFE9F then .oam
  else if a.toNat ≤ 0xFEFF then .unusable
  else if a.toNat ≤ 0xFF7F then .io
  else if a.toNat ≤ 0xFFFE then .hram
  else .ie

/-- A location of a region with the given backing (spec/20_memory.md R64, R65). -/
def storeSlot (k : Store) (x : Word) : Slot :=
  match k with
  | .inert => .inert
  | .ram => .cell x

/-- The Memory Map's routing of an access (spec/20_memory.md R61 to R67). ECHO performs it at the WRAM address 0x2000
below, as that address answers it. -/
def mapSlot (b : Backing) (a : Word) : Slot :=
  match regionOf a with
  | .rom => .rom a
  | .vram => storeSlot b.vram a
  | .xram => storeSlot b.xram a
  | .wram => storeSlot b.wram a
  | .echo =>
    match b.echo with
    | .inert => .inert
    | .echo => storeSlot b.wram (a - 0x2000)
  | .oam => storeSlot b.oam a
  | .unusable => .inert
  | .io => storeSlot b.io a
  | .hram => storeSlot b.hram a
  | .ie => storeSlot b.ie a

/-- What stands behind an address (spec/20_memory.md R50, R61, R66). -/
def slotOf (p : Platform) (a : Word) : Slot :=
  match p.space with
  | .map b => mapSlot b a
  | .flat => .cell a

/-- `get(addr)`: one byte for every address, with no side effect (spec/20_memory.md R51, R59). -/
def State.peek (s : State) (a : Word) : Byte :=
  match slotOf s.platform a with
  | .cell x => Memory.byteAt s.mem x
  | .rom x => Memory.byteAt s.mem x
  | .inert => s.platform.unattachedRead

/-- The stored bytes after `set(addr, v)`: a cell takes the byte, ROM and inert locations discard it
(spec/20_memory.md R52). -/
def storeByte (p : Platform) (m : Memory) (a : Word) (v : Byte) : Memory :=
  match slotOf p a with
  | .cell x => Memory.store m x.toNat v
  | .rom _ => m
  | .inert => m

/-- Appends an access to the step's record (spec/20_memory.md R74). -/
def State.logAccess (s : State) (k : AccessKind) (a : Word) (v : Byte) : State :=
  { s with accesses := s.accesses ++ [{ kind := k, addr := a, byte := v }] }

/-- `MemRead(addr, 1)` (spec/20_memory.md R51); the kind tells a fetch from a data read. -/
def State.memRead (s : State) (k : AccessKind) (a : Word) : Byte × State := (s.peek a, s.logAccess k a (s.peek a))

/-- `MemWrite(addr, 1, v)` (spec/20_memory.md R52): the write is issued whether or not the location stores. -/
def State.memWrite (s : State) (a : Word) (v : Byte) : State :=
  { s.logAccess .write a v with mem := storeByte s.platform s.mem a v }

/-- `MemRead(addr, 2)`: the low byte first, the addresses wrapping (spec/20_memory.md R53). -/
def State.memReadWord (s : State) (k : AccessKind) (a : Word) : Word × State :=
  let (lo, s) := s.memRead k a
  let (hi, s) := s.memRead k (a + 1)
  (bytesToWord hi lo, s)

/-- `MemWrite(addr, 2, v)`: the low byte first, the addresses wrapping (spec/20_memory.md R54). No instruction uses it. -/
def State.memWriteWord (s : State) (a : Word) (v : Word) : State :=
  (s.memWrite a (wordToBytes v).2).memWrite (a + 1) (wordToBytes v).1

/-! ### How a step ends -/

/-- `Ok(cycles)` (spec/00_scope.md R9, spec/70_reset_and_hazards.md R235). -/
def finish (cycles : Nat) (s : State) : Result := .next { s with cycles := cycles }

/-- `raise UnimplementedOpcode(prefixed, opcode, pc0)` after the given fetch reads, the machine's one exception
(spec/60_exceptions.md R200 to R203). It "saves nothing, switches no mode, masks nothing, pushes nothing on the stack and
transfers control nowhere; it hands a record to the host" (R211): the outcome carries the record and the reads that have
happened (spec/20_memory.md R74), and the state of the run stays the one before the step (R201), since a fault answers no
next state (log 14). There is no return from it (R212). -/
def raiseUnimplemented (prefixed : Bool) (opcode : Byte) (pc0 : Word) (reads : List Access) : Fault :=
  .unimplementedOpcode { prefixed := prefixed, opcode := opcode, pc := pc0 } reads

/-! ### Placing a program from outside -/

/-- Places one byte where `peek` reads address `a`, if a byte can be placed there. -/
def placeByte (p : Platform) (m : Memory) (a : Word) (v : Byte) : Memory :=
  match slotOf p a with
  | .cell x => Memory.store m x.toNat v
  | .rom x => Memory.store m x.toNat v
  | .inert => m

/-- A byte can be placed at the address: it is not inert. -/
def placeable (p : Platform) (a : Word) : Bool :=
  match slotOf p a with
  | .cell _ => true
  | .rom _ => true
  | .inert => false

/-- Places three bytes where the next three fetches read. Where one of the addresses is inert, nothing can hold a
program there: the run is then launched on FlatRAM (log 11). -/
def State.placeAtPc (s : State) (b0 b1 b2 : Byte) : State :=
  let p : Platform :=
    if placeable s.platform s.pc && placeable s.platform (s.pc + 1) && placeable s.platform (s.pc + 2) then s.platform
    else { s.platform with space := .flat }
  let m := placeByte p (placeByte p (placeByte p s.mem s.pc b0) (s.pc + 1) b1) (s.pc + 2) b2
  { s with mem := m, platform := p }

end Sys2Proof.Machine
end

