-- ==== Sys2Proof/Machine/Operands.lean ====
section
/-! DEFINITION. Every operand form of the spec: the operand of an extended instruction, the I/O-page address, the signed
displacement and the branch predicates. The pair addresses are `State.get16`. -/

namespace Sys2Proof.Machine

/-- `ReadOperand(z)` (spec/44_extended_bit_ops.md R161). -/
def readOperand (z : Operand) (s : State) : Byte × State :=
  match z with
  | .reg r => (s.get8 r, s)
  | .mem => s.memRead .read (s.get16 .hl)

/-- `WriteOperand(z, v)` (spec/44_extended_bit_ops.md R161). -/
def writeOperand (z : Operand) (v : Byte) (s : State) : State :=
  match z with
  | .reg r => s.set8 r v
  | .mem => s.memWrite (s.get16 .hl) v

/-- `base_cycles(z)`: 16 for `(HL)`, else 8 (spec/44_extended_bit_ops.md R161). -/
def baseCycles (z : Operand) : Nat :=
  match z with
  | .reg _ => 8
  | .mem => 16

/-- `0xFF00 | zext_16(offset)` (spec/42_store_and_io_page.md R136). -/
def ioAddress (offset : Byte) : Word := 0xFF00 ||| offset.zeroExtend 16

/-- `sext_16(b)` (spec/00_scope.md R13). -/
def sext16 (b : Byte) : Word := b.signExtend 16

/-- `cond(cc)` (spec/40_nop_and_jumps.md R111). -/
def condHolds (cc : Cond) (f : Flags) : Bool :=
  match cc with
  | .nz => !f.z
  | .z => f.z
  | .nc => !f.c
  | .c => f.c

end Sys2Proof.Machine
end

