-- ==== Sys2Proof/Machine/Alu.lean ====
section
/-! DEFINITION. Arithmetic and logic (spec/43_alu.md). -/

namespace Sys2Proof.Machine

/-- `XOR A` (R145). -/
def execXorA (s : State) : Result := finish 4 ((s.set8 .a (s.a ^^^ s.a)).setFlags flagsAfterXor)

/-- `DEC r`: the Carry flag keeps its value (R147). -/
def decReg (r : Reg8) (s : State) : Result :=
  finish 4 ((s.set8 r (sub8 (s.get8 r) 1).res).setFlags (flagsAfterDec (s.get8 r) s.flags))

def execDecA (s : State) : Result := decReg .a s
def execDecB (s : State) : Result := decReg .b s
def execDecC (s : State) : Result := decReg .c s
def execDecD (s : State) : Result := decReg .d s
def execDecE (s : State) : Result := decReg .e s
def execDecH (s : State) : Result := decReg .h s
def execDecL (s : State) : Result := decReg .l s

/-- `CP d8`: "A unchanged" (R149). -/
def execCp (d8 : Byte) (s : State) : Result := finish 8 (s.setFlags (flagsAfterCp s.a d8))

end Sys2Proof.Machine
end

