-- ==== Sys2Proof/Machine/Control.lean ====
section
/-! DEFINITION. NOP and the jumps (spec/40_nop_and_jumps.md). A meaning starts where the instruction's bytes have been
fetched: `s.pc` is the address of the byte after them (spec/10_state.md R33). -/

namespace Sys2Proof.Machine

/-- `NOP` (R110). -/
def execNop (s : State) : Result := finish 4 s

/-- `JP a16` (R112). -/
def execJp (a16 : Word) (s : State) : Result := finish 16 (s.setPc a16)

/-- `JP cc,a16`: 16 cycles taken, 12 not taken (R113). -/
def jumpCond (cc : Cond) (a16 : Word) (s : State) : Result :=
  if condHolds cc s.flags then finish 16 (s.setPc a16) else finish 12 s

/-- `JR cc,r8`: the base is PC after the displacement byte; 12 cycles taken, 8 not taken (R114). -/
def jumpRelCond (cc : Cond) (r8 : Byte) (s : State) : Result :=
  if condHolds cc s.flags then finish 12 (s.setPc (s.pc + sext16 r8)) else finish 8 s

def execJpNZ (a16 : Word) (s : State) : Result := jumpCond .nz a16 s
def execJpZ (a16 : Word) (s : State) : Result := jumpCond .z a16 s
def execJpNC (a16 : Word) (s : State) : Result := jumpCond .nc a16 s
def execJpC (a16 : Word) (s : State) : Result := jumpCond .c a16 s

def execJrNZ (r8 : Byte) (s : State) : Result := jumpRelCond .nz r8 s
def execJrZ (r8 : Byte) (s : State) : Result := jumpRelCond .z r8 s
def execJrNC (r8 : Byte) (s : State) : Result := jumpRelCond .nc r8 s
def execJrC (r8 : Byte) (s : State) : Result := jumpRelCond .c r8 s

end Sys2Proof.Machine
end

