-- ==== Sys2Proof/Machine/LoadImm.lean ====
section
/-! DEFINITION. The immediate loads (spec/41_load_immediate.md). No flag is written. -/

namespace Sys2Proof.Machine

/-- `LD rr,d16` (R120). -/
def loadPair (p : Pair) (v : Word) (s : State) : Result := finish 12 (s.set16 (pairName p) v)

/-- `LD r,d8` (R121). -/
def loadReg (r : Reg8) (v : Byte) (s : State) : Result := finish 8 (s.set8 r v)

def execLdBC (v : Word) (s : State) : Result := loadPair .bc v s
def execLdDE (v : Word) (s : State) : Result := loadPair .de v s
def execLdHL (v : Word) (s : State) : Result := loadPair .hl v s
def execLdSP (v : Word) (s : State) : Result := loadPair .sp v s

def execLdA (v : Byte) (s : State) : Result := loadReg .a v s
def execLdB (v : Byte) (s : State) : Result := loadReg .b v s
def execLdC (v : Byte) (s : State) : Result := loadReg .c v s
def execLdD (v : Byte) (s : State) : Result := loadReg .d v s
def execLdE (v : Byte) (s : State) : Result := loadReg .e v s
def execLdH (v : Byte) (s : State) : Result := loadReg .h v s
def execLdL (v : Byte) (s : State) : Result := loadReg .l v s

end Sys2Proof.Machine
end

