-- ==== Sys2Proof/Machine/BitOps.lean ====
section
/-! DEFINITION. The bit test, clear and set of the extended table (spec/44_extended_bit_ops.md R162 to R167). -/

namespace Sys2Proof.Machine

/-- `BIT n`: one read and no write; Z, N and H written, Carry kept (R162, R163). -/
def bitTest (n : Fin 8) (z : Operand) (s : State) : Result :=
  let (v, s1) := readOperand z s
  finish (baseCycles z) (s1.setFlags (flagsAfterBit n v s.flags))

/-- `v & ~(1 << n)`, the complement within 8 bits (R164, R165). -/
def clearBit (n : Fin 8) (v : Byte) : Byte := v &&& ~~~(1#8 <<< n.val)

/-- `v | (1 << n)` (R166, R167). -/
def raiseBit (n : Fin 8) (v : Byte) : Byte := v ||| (1#8 <<< n.val)

/-- Reads the operand and writes it back changed; no flag is written (R164 to R167). -/
def modifyOperand (f : Byte → Byte) (z : Operand) (s : State) : Result :=
  let (v, s1) := readOperand z s
  finish (baseCycles z) (writeOperand z (f v) s1)

/-- `RES n` (R164, R165). -/
def bitClear (n : Fin 8) (z : Operand) (s : State) : Result := modifyOperand (clearBit n) z s

/-- `SET n` (R166, R167). -/
def bitSet (n : Fin 8) (z : Operand) (s : State) : Result := modifyOperand (raiseBit n) z s

def execBit0B (s : State) : Result := bitTest 0 (.reg .b) s
def execBit0C (s : State) : Result := bitTest 0 (.reg .c) s
def execBit0D (s : State) : Result := bitTest 0 (.reg .d) s
def execBit0E (s : State) : Result := bitTest 0 (.reg .e) s
def execBit0H (s : State) : Result := bitTest 0 (.reg .h) s
def execBit0L (s : State) : Result := bitTest 0 (.reg .l) s
def execBit0HL (s : State) : Result := bitTest 0 .mem s
def execBit0A (s : State) : Result := bitTest 0 (.reg .a) s
def execBit1B (s : State) : Result := bitTest 1 (.reg .b) s
def execBit1C (s : State) : Result := bitTest 1 (.reg .c) s
def execBit1D (s : State) : Result := bitTest 1 (.reg .d) s
def execBit1E (s : State) : Result := bitTest 1 (.reg .e) s
def execBit1H (s : State) : Result := bitTest 1 (.reg .h) s
def execBit1L (s : State) : Result := bitTest 1 (.reg .l) s
def execBit1HL (s : State) : Result := bitTest 1 .mem s
def execBit1A (s : State) : Result := bitTest 1 (.reg .a) s
def execBit2B (s : State) : Result := bitTest 2 (.reg .b) s
def execBit2C (s : State) : Result := bitTest 2 (.reg .c) s
def execBit2D (s : State) : Result := bitTest 2 (.reg .d) s
def execBit2E (s : State) : Result := bitTest 2 (.reg .e) s
def execBit2H (s : State) : Result := bitTest 2 (.reg .h) s
def execBit2L (s : State) : Result := bitTest 2 (.reg .l) s
def execBit2HL (s : State) : Result := bitTest 2 .mem s
def execBit2A (s : State) : Result := bitTest 2 (.reg .a) s
def execBit3B (s : State) : Result := bitTest 3 (.reg .b) s
def execBit3C (s : State) : Result := bitTest 3 (.reg .c) s
def execBit3D (s : State) : Result := bitTest 3 (.reg .d) s
def execBit3E (s : State) : Result := bitTest 3 (.reg .e) s
def execBit3H (s : State) : Result := bitTest 3 (.reg .h) s
def execBit3L (s : State) : Result := bitTest 3 (.reg .l) s
def execBit3HL (s : State) : Result := bitTest 3 .mem s
def execBit3A (s : State) : Result := bitTest 3 (.reg .a) s
def execBit4B (s : State) : Result := bitTest 4 (.reg .b) s
def execBit4C (s : State) : Result := bitTest 4 (.reg .c) s
def execBit4D (s : State) : Result := bitTest 4 (.reg .d) s
def execBit4E (s : State) : Result := bitTest 4 (.reg .e) s
def execBit4H (s : State) : Result := bitTest 4 (.reg .h) s
def execBit4L (s : State) : Result := bitTest 4 (.reg .l) s
def execBit4HL (s : State) : Result := bitTest 4 .mem s
def execBit4A (s : State) : Result := bitTest 4 (.reg .a) s
def execBit5B (s : State) : Result := bitTest 5 (.reg .b) s
def execBit5C (s : State) : Result := bitTest 5 (.reg .c) s
def execBit5D (s : State) : Result := bitTest 5 (.reg .d) s
def execBit5E (s : State) : Result := bitTest 5 (.reg .e) s
def execBit5H (s : State) : Result := bitTest 5 (.reg .h) s
def execBit5L (s : State) : Result := bitTest 5 (.reg .l) s
def execBit5HL (s : State) : Result := bitTest 5 .mem s
def execBit5A (s : State) : Result := bitTest 5 (.reg .a) s
def execBit6B (s : State) : Result := bitTest 6 (.reg .b) s
def execBit6C (s : State) : Result := bitTest 6 (.reg .c) s
def execBit6D (s : State) : Result := bitTest 6 (.reg .d) s
def execBit6E (s : State) : Result := bitTest 6 (.reg .e) s
def execBit6H (s : State) : Result := bitTest 6 (.reg .h) s
def execBit6L (s : State) : Result := bitTest 6 (.reg .l) s
def execBit6HL (s : State) : Result := bitTest 6 .mem s
def execBit6A (s : State) : Result := bitTest 6 (.reg .a) s
def execBit7B (s : State) : Result := bitTest 7 (.reg .b) s
def execBit7C (s : State) : Result := bitTest 7 (.reg .c) s
def execBit7D (s : State) : Result := bitTest 7 (.reg .d) s
def execBit7E (s : State) : Result := bitTest 7 (.reg .e) s
def execBit7H (s : State) : Result := bitTest 7 (.reg .h) s
def execBit7L (s : State) : Result := bitTest 7 (.reg .l) s
def execBit7HL (s : State) : Result := bitTest 7 .mem s
def execBit7A (s : State) : Result := bitTest 7 (.reg .a) s

def execRes0B (s : State) : Result := bitClear 0 (.reg .b) s
def execRes0C (s : State) : Result := bitClear 0 (.reg .c) s
def execRes0D (s : State) : Result := bitClear 0 (.reg .d) s
def execRes0E (s : State) : Result := bitClear 0 (.reg .e) s
def execRes0H (s : State) : Result := bitClear 0 (.reg .h) s
def execRes0L (s : State) : Result := bitClear 0 (.reg .l) s
def execRes0HL (s : State) : Result := bitClear 0 .mem s
def execRes0A (s : State) : Result := bitClear 0 (.reg .a) s
def execRes1B (s : State) : Result := bitClear 1 (.reg .b) s
def execRes1C (s : State) : Result := bitClear 1 (.reg .c) s
def execRes1D (s : State) : Result := bitClear 1 (.reg .d) s
def execRes1E (s : State) : Result := bitClear 1 (.reg .e) s
def execRes1H (s : State) : Result := bitClear 1 (.reg .h) s
def execRes1L (s : State) : Result := bitClear 1 (.reg .l) s
def execRes1HL (s : State) : Result := bitClear 1 .mem s
def execRes1A (s : State) : Result := bitClear 1 (.reg .a) s
def execRes2B (s : State) : Result := bitClear 2 (.reg .b) s
def execRes2C (s : State) : Result := bitClear 2 (.reg .c) s
def execRes2D (s : State) : Result := bitClear 2 (.reg .d) s
def execRes2E (s : State) : Result := bitClear 2 (.reg .e) s
def execRes2H (s : State) : Result := bitClear 2 (.reg .h) s
def execRes2L (s : State) : Result := bitClear 2 (.reg .l) s
def execRes2HL (s : State) : Result := bitClear 2 .mem s
def execRes2A (s : State) : Result := bitClear 2 (.reg .a) s
def execRes3B (s : State) : Result := bitClear 3 (.reg .b) s
def execRes3C (s : State) : Result := bitClear 3 (.reg .c) s
def execRes3D (s : State) : Result := bitClear 3 (.reg .d) s
def execRes3E (s : State) : Result := bitClear 3 (.reg .e) s
def execRes3H (s : State) : Result := bitClear 3 (.reg .h) s
def execRes3L (s : State) : Result := bitClear 3 (.reg .l) s
def execRes3HL (s : State) : Result := bitClear 3 .mem s
def execRes3A (s : State) : Result := bitClear 3 (.reg .a) s
def execRes4B (s : State) : Result := bitClear 4 (.reg .b) s
def execRes4C (s : State) : Result := bitClear 4 (.reg .c) s
def execRes4D (s : State) : Result := bitClear 4 (.reg .d) s
def execRes4E (s : State) : Result := bitClear 4 (.reg .e) s
def execRes4H (s : State) : Result := bitClear 4 (.reg .h) s
def execRes4L (s : State) : Result := bitClear 4 (.reg .l) s
def execRes4HL (s : State) : Result := bitClear 4 .mem s
def execRes4A (s : State) : Result := bitClear 4 (.reg .a) s
def execRes5B (s : State) : Result := bitClear 5 (.reg .b) s
def execRes5C (s : State) : Result := bitClear 5 (.reg .c) s
def execRes5D (s : State) : Result := bitClear 5 (.reg .d) s
def execRes5E (s : State) : Result := bitClear 5 (.reg .e) s
def execRes5H (s : State) : Result := bitClear 5 (.reg .h) s
def execRes5L (s : State) : Result := bitClear 5 (.reg .l) s
def execRes5HL (s : State) : Result := bitClear 5 .mem s
def execRes5A (s : State) : Result := bitClear 5 (.reg .a) s
def execRes6B (s : State) : Result := bitClear 6 (.reg .b) s
def execRes6C (s : State) : Result := bitClear 6 (.reg .c) s
def execRes6D (s : State) : Result := bitClear 6 (.reg .d) s
def execRes6E (s : State) : Result := bitClear 6 (.reg .e) s
def execRes6H (s : State) : Result := bitClear 6 (.reg .h) s
def execRes6L (s : State) : Result := bitClear 6 (.reg .l) s
def execRes6HL (s : State) : Result := bitClear 6 .mem s
def execRes6A (s : State) : Result := bitClear 6 (.reg .a) s
def execRes7B (s : State) : Result := bitClear 7 (.reg .b) s
def execRes7C (s : State) : Result := bitClear 7 (.reg .c) s
def execRes7D (s : State) : Result := bitClear 7 (.reg .d) s
def execRes7E (s : State) : Result := bitClear 7 (.reg .e) s
def execRes7H (s : State) : Result := bitClear 7 (.reg .h) s
def execRes7L (s : State) : Result := bitClear 7 (.reg .l) s
def execRes7HL (s : State) : Result := bitClear 7 .mem s
def execRes7A (s : State) : Result := bitClear 7 (.reg .a) s

def execSet0B (s : State) : Result := bitSet 0 (.reg .b) s
def execSet0C (s : State) : Result := bitSet 0 (.reg .c) s
def execSet0D (s : State) : Result := bitSet 0 (.reg .d) s
def execSet0E (s : State) : Result := bitSet 0 (.reg .e) s
def execSet0H (s : State) : Result := bitSet 0 (.reg .h) s
def execSet0L (s : State) : Result := bitSet 0 (.reg .l) s
def execSet0HL (s : State) : Result := bitSet 0 .mem s
def execSet0A (s : State) : Result := bitSet 0 (.reg .a) s
def execSet1B (s : State) : Result := bitSet 1 (.reg .b) s
def execSet1C (s : State) : Result := bitSet 1 (.reg .c) s
def execSet1D (s : State) : Result := bitSet 1 (.reg .d) s
def execSet1E (s : State) : Result := bitSet 1 (.reg .e) s
def execSet1H (s : State) : Result := bitSet 1 (.reg .h) s
def execSet1L (s : State) : Result := bitSet 1 (.reg .l) s
def execSet1HL (s : State) : Result := bitSet 1 .mem s
def execSet1A (s : State) : Result := bitSet 1 (.reg .a) s
def execSet2B (s : State) : Result := bitSet 2 (.reg .b) s
def execSet2C (s : State) : Result := bitSet 2 (.reg .c) s
def execSet2D (s : State) : Result := bitSet 2 (.reg .d) s
def execSet2E (s : State) : Result := bitSet 2 (.reg .e) s
def execSet2H (s : State) : Result := bitSet 2 (.reg .h) s
def execSet2L (s : State) : Result := bitSet 2 (.reg .l) s
def execSet2HL (s : State) : Result := bitSet 2 .mem s
def execSet2A (s : State) : Result := bitSet 2 (.reg .a) s
def execSet3B (s : State) : Result := bitSet 3 (.reg .b) s
def execSet3C (s : State) : Result := bitSet 3 (.reg .c) s
def execSet3D (s : State) : Result := bitSet 3 (.reg .d) s
def execSet3E (s : State) : Result := bitSet 3 (.reg .e) s
def execSet3H (s : State) : Result := bitSet 3 (.reg .h) s
def execSet3L (s : State) : Result := bitSet 3 (.reg .l) s
def execSet3HL (s : State) : Result := bitSet 3 .mem s
def execSet3A (s : State) : Result := bitSet 3 (.reg .a) s
def execSet4B (s : State) : Result := bitSet 4 (.reg .b) s
def execSet4C (s : State) : Result := bitSet 4 (.reg .c) s
def execSet4D (s : State) : Result := bitSet 4 (.reg .d) s
def execSet4E (s : State) : Result := bitSet 4 (.reg .e) s
def execSet4H (s : State) : Result := bitSet 4 (.reg .h) s
def execSet4L (s : State) : Result := bitSet 4 (.reg .l) s
def execSet4HL (s : State) : Result := bitSet 4 .mem s
def execSet4A (s : State) : Result := bitSet 4 (.reg .a) s
def execSet5B (s : State) : Result := bitSet 5 (.reg .b) s
def execSet5C (s : State) : Result := bitSet 5 (.reg .c) s
def execSet5D (s : State) : Result := bitSet 5 (.reg .d) s
def execSet5E (s : State) : Result := bitSet 5 (.reg .e) s
def execSet5H (s : State) : Result := bitSet 5 (.reg .h) s
def execSet5L (s : State) : Result := bitSet 5 (.reg .l) s
def execSet5HL (s : State) : Result := bitSet 5 .mem s
def execSet5A (s : State) : Result := bitSet 5 (.reg .a) s
def execSet6B (s : State) : Result := bitSet 6 (.reg .b) s
def execSet6C (s : State) : Result := bitSet 6 (.reg .c) s
def execSet6D (s : State) : Result := bitSet 6 (.reg .d) s
def execSet6E (s : State) : Result := bitSet 6 (.reg .e) s
def execSet6H (s : State) : Result := bitSet 6 (.reg .h) s
def execSet6L (s : State) : Result := bitSet 6 (.reg .l) s
def execSet6HL (s : State) : Result := bitSet 6 .mem s
def execSet6A (s : State) : Result := bitSet 6 (.reg .a) s
def execSet7B (s : State) : Result := bitSet 7 (.reg .b) s
def execSet7C (s : State) : Result := bitSet 7 (.reg .c) s
def execSet7D (s : State) : Result := bitSet 7 (.reg .d) s
def execSet7E (s : State) : Result := bitSet 7 (.reg .e) s
def execSet7H (s : State) : Result := bitSet 7 (.reg .h) s
def execSet7L (s : State) : Result := bitSet 7 (.reg .l) s
def execSet7HL (s : State) : Result := bitSet 7 .mem s
def execSet7A (s : State) : Result := bitSet 7 (.reg .a) s

end Sys2Proof.Machine
end

