-- ==== Sys2Proof/Machine/RotShift.lean ====
section
/-! DEFINITION. The rotates, shifts and nibble swap of the extended table (spec/45_extended_rotate_shift.md R176 to R191),
each once as a function of the Carry flag and the operand byte, and the sixty-four instructions over them. Their results
and flags are the spec's passages "from general knowledge" (spec/92_eei_decisions.md D9, log 4). -/

namespace Sys2Proof.Machine

/-- A rotate or shift of one byte: from the Carry flag and the operand, the result and the bit moved out. -/
abbrev RotShift := Bool → Byte → Byte × Bool

/-- Bit 7 moves to bit 0 (R176, R177). -/
def rlc : RotShift := fun _ v => ((v <<< 1) ||| (v >>> 7), v.getLsbD 7)

/-- Bit 0 moves to bit 7 (R178, R179). -/
def rrc : RotShift := fun _ v => ((v >>> 1) ||| (v <<< 7), v.getLsbD 0)

/-- The old Carry moves to bit 0 (R180, R181). -/
def rl : RotShift := fun cin v => ((v <<< 1) ||| (BitVec.ofBool cin).zeroExtend 8, v.getLsbD 7)

/-- The old Carry moves to bit 7 (R182, R183). -/
def rr : RotShift := fun cin v => ((v >>> 1) ||| ((BitVec.ofBool cin).zeroExtend 8 <<< 7), v.getLsbD 0)

/-- Bit 0 becomes 0 (R184, R185). -/
def sla : RotShift := fun _ v => (v <<< 1, v.getLsbD 7)

/-- Bit 7 keeps its value (R186, R187). -/
def sra : RotShift := fun _ v => ((v >>> 1) ||| (v &&& 0x80), v.getLsbD 0)

/-- The nibbles exchanged; Carry is cleared, not computed (R188, R189). -/
def swapNibbles : RotShift := fun _ v => (v.extractLsb' 0 4 ++ v.extractLsb' 4 4, false)

/-- Bit 7 becomes 0 (R190, R191). -/
def srl : RotShift := fun _ v => (v >>> 1, v.getLsbD 0)

/-- A rotate, shift or swap of an operand: one read, one write back, performed even where nothing changes, and all four
flags, computed from the byte read (R175 to R191, spec/44_extended_bit_ops.md R161). -/
def rotShift (f : RotShift) (z : Operand) (s : State) : Result :=
  let (v, s1) := readOperand z s
  let (res, out) := f s.flags.c v
  finish (baseCycles z) ((writeOperand z res s1).setFlags (flagsAfterRotShift res out))

def execRlcB (s : State) : Result := rotShift rlc (.reg .b) s
def execRlcC (s : State) : Result := rotShift rlc (.reg .c) s
def execRlcD (s : State) : Result := rotShift rlc (.reg .d) s
def execRlcE (s : State) : Result := rotShift rlc (.reg .e) s
def execRlcH (s : State) : Result := rotShift rlc (.reg .h) s
def execRlcL (s : State) : Result := rotShift rlc (.reg .l) s
def execRlcHL (s : State) : Result := rotShift rlc .mem s
def execRlcA (s : State) : Result := rotShift rlc (.reg .a) s

def execRrcB (s : State) : Result := rotShift rrc (.reg .b) s
def execRrcC (s : State) : Result := rotShift rrc (.reg .c) s
def execRrcD (s : State) : Result := rotShift rrc (.reg .d) s
def execRrcE (s : State) : Result := rotShift rrc (.reg .e) s
def execRrcH (s : State) : Result := rotShift rrc (.reg .h) s
def execRrcL (s : State) : Result := rotShift rrc (.reg .l) s
def execRrcHL (s : State) : Result := rotShift rrc .mem s
def execRrcA (s : State) : Result := rotShift rrc (.reg .a) s

def execRlB (s : State) : Result := rotShift rl (.reg .b) s
def execRlC (s : State) : Result := rotShift rl (.reg .c) s
def execRlD (s : State) : Result := rotShift rl (.reg .d) s
def execRlE (s : State) : Result := rotShift rl (.reg .e) s
def execRlH (s : State) : Result := rotShift rl (.reg .h) s
def execRlL (s : State) : Result := rotShift rl (.reg .l) s
def execRlHL (s : State) : Result := rotShift rl .mem s
def execRlA (s : State) : Result := rotShift rl (.reg .a) s

def execRrB (s : State) : Result := rotShift rr (.reg .b) s
def execRrC (s : State) : Result := rotShift rr (.reg .c) s
def execRrD (s : State) : Result := rotShift rr (.reg .d) s
def execRrE (s : State) : Result := rotShift rr (.reg .e) s
def execRrH (s : State) : Result := rotShift rr (.reg .h) s
def execRrL (s : State) : Result := rotShift rr (.reg .l) s
def execRrHL (s : State) : Result := rotShift rr .mem s
def execRrA (s : State) : Result := rotShift rr (.reg .a) s

def execSlaB (s : State) : Result := rotShift sla (.reg .b) s
def execSlaC (s : State) : Result := rotShift sla (.reg .c) s
def execSlaD (s : State) : Result := rotShift sla (.reg .d) s
def execSlaE (s : State) : Result := rotShift sla (.reg .e) s
def execSlaH (s : State) : Result := rotShift sla (.reg .h) s
def execSlaL (s : State) : Result := rotShift sla (.reg .l) s
def execSlaHL (s : State) : Result := rotShift sla .mem s
def execSlaA (s : State) : Result := rotShift sla (.reg .a) s

def execSraB (s : State) : Result := rotShift sra (.reg .b) s
def execSraC (s : State) : Result := rotShift sra (.reg .c) s
def execSraD (s : State) : Result := rotShift sra (.reg .d) s
def execSraE (s : State) : Result := rotShift sra (.reg .e) s
def execSraH (s : State) : Result := rotShift sra (.reg .h) s
def execSraL (s : State) : Result := rotShift sra (.reg .l) s
def execSraHL (s : State) : Result := rotShift sra .mem s
def execSraA (s : State) : Result := rotShift sra (.reg .a) s

def execSwapB (s : State) : Result := rotShift swapNibbles (.reg .b) s
def execSwapC (s : State) : Result := rotShift swapNibbles (.reg .c) s
def execSwapD (s : State) : Result := rotShift swapNibbles (.reg .d) s
def execSwapE (s : State) : Result := rotShift swapNibbles (.reg .e) s
def execSwapH (s : State) : Result := rotShift swapNibbles (.reg .h) s
def execSwapL (s : State) : Result := rotShift swapNibbles (.reg .l) s
def execSwapHL (s : State) : Result := rotShift swapNibbles .mem s
def execSwapA (s : State) : Result := rotShift swapNibbles (.reg .a) s

def execSrlB (s : State) : Result := rotShift srl (.reg .b) s
def execSrlC (s : State) : Result := rotShift srl (.reg .c) s
def execSrlD (s : State) : Result := rotShift srl (.reg .d) s
def execSrlE (s : State) : Result := rotShift srl (.reg .e) s
def execSrlH (s : State) : Result := rotShift srl (.reg .h) s
def execSrlL (s : State) : Result := rotShift srl (.reg .l) s
def execSrlHL (s : State) : Result := rotShift srl .mem s
def execSrlA (s : State) : Result := rotShift srl (.reg .a) s

end Sys2Proof.Machine
end

