-- ==== Sys2Proof/Machine/Prefix.lean ====
section
/-! DEFINITION. The row `PREFIX CB` (spec/44_extended_bit_ops.md R160): "perform the extended instruction that rule R94
of 30_encoding.md assigns to e", by the fields of `e` and not by its name. -/

namespace Sys2Proof.Machine

/-- The operation of the extended table on an operand (spec/30_encoding.md R94). -/
def extendedOp (op : ExtOp) (z : Operand) (s : State) : Result :=
  match op with
  | .rlc => rotShift rlc z s
  | .rrc => rotShift rrc z s
  | .rl => rotShift rl z s
  | .rr => rotShift rr z s
  | .sla => rotShift sla z s
  | .sra => rotShift sra z s
  | .swap => rotShift swapNibbles z s
  | .srl => rotShift srl z s
  | .bit n => bitTest n z s
  | .res n => bitClear n z s
  | .set n => bitSet n z s

/-- `PREFIX CB` followed by `e` (R160). Whether CB_ROTSHIFT admits `e` is checked where the bytes are fetched
(spec/30_encoding.md R96, `fetchInstr`), before any meaning runs. -/
def execPrefixCB (e : Byte) (s : State) : Result := extendedOp (extOpOf e) (operandOf e) s

end Sys2Proof.Machine
end

