-- ==== Sys2Proof/Machine/StoreIo.lean ====
section
/-! DEFINITION. Stores of A through a pair, and the I/O-page loads and stores (spec/42_store_and_io_page.md). No flag is
written; a store changes memory only where the location stores (R130). -/

namespace Sys2Proof.Machine

/-- Stores A at an address (R130). -/
def storeA (cycles : Nat) (a : Word) (s : State) : Result := finish cycles (s.memWrite a s.a)

/-- Loads A from an address (R138, R140). -/
def loadA (cycles : Nat) (a : Word) (s : State) : Result :=
  let (v, s) := s.memRead .read a
  finish cycles (s.set8 .a v)

/-- `LD (BC),A` (R131). -/
def execStBC (s : State) : Result := storeA 8 (s.get16 .bc) s

/-- `LD (DE),A` (R132). -/
def execStDE (s : State) : Result := storeA 8 (s.get16 .de) s

/-- `LD (HL),A` (R133). -/
def execStHL (s : State) : Result := storeA 8 (s.get16 .hl) s

/-- `LD (HL+),A`: the store uses the old HL, the increment comes after the access and sets no flag (R134). -/
def execStHLInc (s : State) : Result :=
  finish 8 ((s.memWrite (s.get16 .hl) s.a).set16 .hl (inc16 (s.get16 .hl)).1)

/-- `LD (HL-),A`: the store uses the old HL (R135). -/
def execStHLDec (s : State) : Result :=
  finish 8 ((s.memWrite (s.get16 .hl) s.a).set16 .hl (dec16 (s.get16 .hl)).1)

/-- `LDH (a8),A` (R137). -/
def execLdhStore (a8 : Byte) (s : State) : Result := storeA 12 (ioAddress a8) s

/-- `LDH A,(a8)` (R138). -/
def execLdhLoad (a8 : Byte) (s : State) : Result := loadA 12 (ioAddress a8) s

/-- `LD (C),A`; C is the register (R139). -/
def execStIoC (s : State) : Result := storeA 8 (ioAddress s.c) s

/-- `LD A,(C)`; C is the register (R140). -/
def execLdIoC (s : State) : Result := loadA 8 (ioAddress s.c) s

end Sys2Proof.Machine
end

