-- ==== Sys2Proof/Machine/Fetch.lean ====
section
/-! DEFINITION. Fetching an instruction: the PC-advancing reads (spec/10_state.md R31, R32) and the decode procedure of
spec/30_encoding.md R96 over them. -/

namespace Sys2Proof.Machine

/-- `Fetch8()`: the byte at PC, PC advanced by 1 with wrap-around (spec/10_state.md R31). -/
def fetch8 (s : State) : Byte × State :=
  let (b, s') := s.memRead .fetch s.pc
  (b, s'.setPc (inc16 s'.pc).1)

/-- `Fetch16()`: two fetches, the low byte first (spec/10_state.md R32). -/
def fetch16 (s : State) : Word × State :=
  let (lo, s) := fetch8 s
  let (hi, s) := fetch8 s
  (bytesToWord hi lo, s)

/-- The parameter CB_ROTSHIFT leaves the extended opcode unimplemented (spec/45_extended_rotate_shift.md R175). -/
def rotShiftRefused (p : Platform) (e : Byte) : Bool :=
  inRotShiftGroup e && (p.cbRotShift == .unimplemented)

/-- The decode procedure (spec/30_encoding.md R96): the instruction at PC and the state after all its bytes have been
fetched, or the fault with the reads made till then. The primary byte is examined before any second byte is fetched (spec/60_exceptions.md R209). -/
def fetchInstr (s : State) : Except Fault (Instr × State) :=
  let (op, s1) := fetch8 s
  match primary op with
  | none => .error (raiseUnimplemented false op s.pc s1.accesses)
  | some (.op i) => .ok (i, s1)
  | some (.imm8 mk) =>
    let (v, s2) := fetch8 s1
    .ok (mk v, s2)
  | some (.imm16 mk) =>
    let (v, s2) := fetch16 s1
    .ok (mk v, s2)
  | some .ext =>
    let (e, s2) := fetch8 s1
    match rotShiftRefused s.platform e with
    | true => .error (raiseUnimplemented true e s.pc s2.accesses)
    | false => .ok (extended e, s2)

end Sys2Proof.Machine
end

