-- ==== Sys2Proof/Machine/Step.lean ====
section
/-! DEFINITION. One step (spec/00_scope.md R8, R9): fetch and decode, then the instruction's meaning. -/

namespace Sys2Proof.Machine

/-- One complete instruction. The record of accesses starts anew (spec/20_memory.md R74); a fault answers the record of
spec/60_exceptions.md R202, its own accesses and no next state. -/
def step (s : State) : Host.Outcome State Fault Refusal :=
  match fetchInstr { s with accesses := [] } with
  | .error r => .fault r
  | .ok (i, s') => exec i s'

/-- The state with a row's word, zero bytes after it, stored where the next step fetches (log 11). -/
def State.withFetchWord (s : State) (nbits w : Nat) : State :=
  match instrBytes nbits w with
  | b0 :: b1 :: b2 :: _ => s.placeAtPc b0 b1 b2
  | _ => s

end Sys2Proof.Machine
end

