-- ==== Sys2Proof/Machine/Launch.lean ====
section
/-! DEFINITION. Power-up with the parameters the host gives (spec/70_reset_and_hazards.md R230 to R232,
spec/60_exceptions.md R206): how a program comes into the machine. No step of the machine does any of this (log 11). -/

namespace Sys2Proof.Machine

/-- The configuration is one the spec calls legal: ECHO mirrors only a RAM-backed WRAM (spec/20_memory.md R67). -/
def legalPlatform (p : Platform) : Bool :=
  match p.space with
  | .flat => true
  | .map b =>
    match b.echo with
    | .inert => true
    | .echo => b.wram == .ram

/-- Power-up: every bit of core state at its reset value (spec/70_reset_and_hazards.md R230), with launch parameters and
memory contents as given. A second power-up is the same event; "what memory then holds is not stated" (R231, log 12),
so the contents are an argument. -/
def powerUp (p : Platform) (m : Memory) : State := { State.reset with platform := p, mem := m }

/-- An image laid out from an address on. -/
def imageCells (a : Nat) (bytes : List Byte) : Memory :=
  match bytes with
  | [] => []
  | v :: bytes => (a, v) :: imageCells (a + 1) bytes

/-- The host's launch (spec/60_exceptions.md R206, R207): the ROM image at 0x0000 to 0x7FFF, and initial contents for as
many of the locations above as the host gives (RAM_INIT); refused where the image is not exactly 0x8000 bytes or the
configuration is not legal. DESIGN CHOICE (log 18): on FlatRAM, which has no ROM parameter and takes only its image
(spec/00_scope.md R11), `rom` is the lower half of the image, of the same length or refused the same way, and `ramInit`
as much of the upper half as the host gives; the spec does not say how FlatRAM gets its image or what it refuses. -/
def launch (p : Platform) (rom : List Byte) (ramInit : Memory) : Result :=
  if rom.length = 0x8000 then
    if legalPlatform p then
      .next (powerUp p (imageCells 0 rom ++ ramInit.filter (fun cell => decide (0x8000 ≤ cell.1))))
    else .refused .illegalBacking
  else .refused .malformedRom

end Sys2Proof.Machine
end

