-- ==== Sys2Proof/Safety.lean ====
section
/-! DEFINITION. The terms in which claims speak of states, steps and runs: the invariant, what a fetch leaves, the tables
of spec/30_encoding.md R93 and spec/10_state.md R23 and R37 read off the bytes of an instruction, and the three ends of
a run (spec/60_exceptions.md R208). -/

namespace Sys2Proof.Machine

/-! ### States -/

/-- The invariant of the machine: memory is in its canonical form, and the launch parameters are legal. -/
structure State.Inv (s : State) : Prop where
  memCanonical : Memory.wf s.mem = true
  platformLegal : legalPlatform s.platform = true

/-- The registers, flags and program counter of two states are the same: the core state of spec/10_state.md R20. -/
def SameCore (s t : State) : Prop :=
  (∀ r, t.get8 r = s.get8 r) ∧ t.flags = s.flags ∧ t.sp = s.sp ∧ t.pc = s.pc

/-- Every byte of the Address Space reads the same in two states. -/
def SameBytes (s t : State) : Prop := ∀ a, t.peek a = s.peek a

/-- Every byte outside the location that address `x` reaches reads the same in two states. (Two addresses reach one
location only where ECHO mirrors WRAM.) -/
def SameBytesBut (x : Word) (s t : State) : Prop :=
  ∀ a, slotOf s.platform a ≠ slotOf s.platform x → t.peek a = s.peek a

/-- The address is one of a byte cell: a write to it stores (spec/20_memory.md R65, R66). -/
def Stores (s : State) (x : Word) : Prop := ∃ y, slotOf s.platform x = .cell y

/-- A region whose accesses are those of spec/20_memory.md R64 under the backing. -/
def regionInert (b : Backing) (r : Region) : Bool :=
  match r with
  | .rom => false
  | .vram => b.vram == .inert
  | .xram => b.xram == .inert
  | .wram => b.wram == .inert
  | .echo => b.echo == .inert
  | .oam => b.oam == .inert
  | .unusable => true
  | .io => b.io == .inert
  | .hram => b.hram == .inert
  | .ie => b.ie == .inert

/-- A region whose accesses are those of spec/20_memory.md R65 under the backing. -/
def regionRam (b : Backing) (r : Region) : Bool :=
  match r with
  | .rom => false
  | .vram => b.vram == .ram
  | .xram => b.xram == .ram
  | .wram => b.wram == .ram
  | .echo => false
  | .oam => b.oam == .ram
  | .unusable => false
  | .io => b.io == .ram
  | .hram => b.hram == .ram
  | .ie => b.ie == .ram

/-! ### What an instruction did -/

/-- From `s` to `t` an instruction of `n` cycles left every register but the flags as it was, read no data and stored
nothing. -/
structure KeptRegisters (s t : State) (n : Nat) : Prop where
  regs : ∀ r, t.get8 r = s.get8 r
  sp : t.sp = s.sp
  pc : t.pc = s.pc
  bytes : SameBytes s t
  mem : t.mem = s.mem
  platform : t.platform = s.platform
  accesses : t.accesses = s.accesses
  cycles : t.cycles = n

/-- From `s` to `t` an instruction of `n` cycles wrote `v` to register `r` and left every other register but the flags
as it was, read no data and stored nothing. -/
structure WroteRegister (s t : State) (r : Reg8) (v : Byte) (n : Nat) : Prop where
  written : t.get8 r = v
  regs : ∀ q, q ≠ r → t.get8 q = s.get8 q
  sp : t.sp = s.sp
  pc : t.pc = s.pc
  bytes : SameBytes s t
  mem : t.mem = s.mem
  platform : t.platform = s.platform
  accesses : t.accesses = s.accesses
  cycles : t.cycles = n

/-- From `s` to `t` a store of `v` at `x` happened, and of all of memory nothing else: where the location stores it holds
`v`, elsewhere every byte reads as before. -/
structure StoredByte (s t : State) (x : Word) (v : Byte) : Prop where
  written : Stores s x → t.peek x = v
  discarded : ¬ Stores s x → SameBytes s t
  others : SameBytesBut x s t
  platform : t.platform = s.platform

/-- From `s` to `t` a 16-cycle instruction read the byte at HL and wrote `v` back at HL, read before write, and left every
register but the flags as it was. -/
structure RewroteByteAtHL (s t : State) (v : Byte) : Prop where
  stored : StoredByte s t (s.get16 .hl) v
  regs : ∀ r, t.get8 r = s.get8 r
  sp : t.sp = s.sp
  pc : t.pc = s.pc
  accesses : t.accesses = s.accesses ++
    [{ kind := .read, addr := s.get16 .hl, byte := s.peek (s.get16 .hl) },
     { kind := .write, addr := s.get16 .hl, byte := v }]
  cycles : t.cycles = 16

/-! ### Fetching -/

/-- The fetch reads of the `n` bytes from PC on, in order (spec/20_memory.md R57). -/
def fetchLog (s : State) (n : Nat) : List Access :=
  (List.range n).map fun k =>
    { kind := .fetch, addr := s.pc + BitVec.ofNat 16 k, byte := s.peek (s.pc + BitVec.ofNat 16 k) }

/-- The state in which a meaning runs after the `n` bytes of its instruction have been fetched: PC past them
(spec/10_state.md R33) and their reads recorded. -/
def State.afterFetch (s : State) (n : Nat) : State :=
  { s with pc := s.pc + BitVec.ofNat 16 n, accesses := fetchLog s n }

/-! ### Tables over the bytes of an instruction -/

/-- The 216 unimplemented bytes as spec/30_encoding.md R93 lists them, bounds inclusive. -/
def unimplementedRanges : List (Nat × Nat) :=
  [(0x03, 0x04), (0x07, 0x0C), (0x0F, 0x10), (0x13, 0x14), (0x17, 0x1C), (0x1F, 0x1F), (0x23, 0x24), (0x27, 0x27),
   (0x29, 0x2C), (0x2F, 0x2F), (0x33, 0x37), (0x39, 0x3C), (0x3F, 0x76), (0x78, 0xAE), (0xB0, 0xC1), (0xC4, 0xC9),
   (0xCC, 0xD1), (0xD3, 0xD9), (0xDB, 0xDF), (0xE1, 0xE1), (0xE3, 0xEF), (0xF1, 0xF1), (0xF3, 0xFD), (0xFF, 0xFF)]

/-- The byte is in the list of R93. -/
def unimplementedByte (op : Byte) : Bool :=
  unimplementedRanges.any fun r => decide (r.1 ≤ op.toNat) && decide (op.toNat ≤ r.2)

/-- The opcode bytes of the jumps (spec/30_encoding.md R92). -/
def jumpByte (op : Byte) : Bool :=
  [0x20, 0x28, 0x30, 0x38, 0xC2, 0xC3, 0xCA, 0xD2, 0xDA].contains op.toNat

/-- The opcode bytes of `DEC r` (spec/30_encoding.md R92). -/
def decByte (op : Byte) : Bool := [0x05, 0x0D, 0x15, 0x1D, 0x25, 0x2D, 0x3D].contains op.toNat

/-- The instruction with opcode `op`, and second byte `e` where it is extended, writes a flag (the rows of
spec/10_state.md R37 that name one). -/
def writesFlags (op e : Byte) : Bool :=
  decByte op || op == 0xAF || op == 0xFE || (op == 0xCB && decide (e.toNat < 0x80))

/-- The instruction writes the Carry flag (the rows of spec/10_state.md R37 whose C column is not "unchanged"). -/
def writesCarry (op e : Byte) : Bool :=
  op == 0xAF || op == 0xFE || (op == 0xCB && decide (e.toNat < 0x40))

/-- The number of a register in the operand field (spec/30_encoding.md R83). -/
def fieldOfReg (r : Reg8) : Nat :=
  match r with
  | .b => 0
  | .c => 1
  | .d => 2
  | .e => 3
  | .h => 4
  | .l => 5
  | .a => 7

/-- The instruction writes the register (the column "written by" of spec/10_state.md R23). -/
def writesReg (op e : Byte) (r : Reg8) : Bool :=
  let ownBytes :=
    match r with
    | .a => [0x3E, 0xF0, 0xF2, 0xAF, 0x3D]
    | .b => [0x06, 0x05, 0x01]
    | .c => [0x0E, 0x0D, 0x01]
    | .d => [0x16, 0x15, 0x11]
    | .e => [0x1E, 0x1D, 0x11]
    | .h => [0x26, 0x25, 0x21, 0x22, 0x32]
    | .l => [0x2E, 0x2D, 0x21, 0x22, 0x32]
  ownBytes.contains op.toNat ||
    (op == 0xCB && (e.toNat % 8 == fieldOfReg r) && !(decide (0x40 ≤ e.toNat) && decide (e.toNat < 0x80)))

/-! ### Runs (spec/60_exceptions.md R208) -/

/-- End (a): exactly `k` steps, all `Ok`, from `s` to `t`. -/
def CompletesIn (k : Nat) (s t : State) : Prop := Host.Core.run Sys2Proof.core k s = .next t

/-- End (b): the first fault is at the step after `k` steps; `t` is the state it leaves (R201). -/
def FaultsAfter (k : Nat) (s t : State) (r : Fault) : Prop := CompletesIn k s t ∧ step t = .fault r

/-- End (c): every number of steps completes. -/
def RunsForever (s : State) : Prop := ∀ k, ∃ t, CompletesIn k s t

/-- "Total elapsed cycles of a run are the sum of the `Ok` values": of the first `k` steps, or of those before a fault. -/
def elapsedCycles (k : Nat) (s : State) : Nat :=
  match k with
  | 0 => 0
  | k + 1 =>
    match step s with
    | .next t => t.cycles + elapsedCycles k t
    | .fault _ => 0
    | .refused _ => 0

end Sys2Proof.Machine
end

