-- ==== Sys2Proof/Certificates/Slice0/Obligations.lean ====
section
/-! DEFINITION. The statements for the provers. Each docstring names the rule of spec/ it formalises. -/

open Sys2Proof Sys2Proof.Machine

/-! ### Reset and launch -/

/-- R44: every bit of core state has its reset value, and the first byte fetched after power-up, with whatever memory and
parameters, is the one at 0x0100. -/
def Obligations.ResetStateIsPostBoot : Prop :=
  State.reset.a = 0x01 ∧ packFlags State.reset.flags = 0xB0 ∧ State.reset.b = 0x00 ∧ State.reset.c = 0x13 ∧
  State.reset.d = 0x00 ∧ State.reset.e = 0xD8 ∧ State.reset.h = 0x01 ∧ State.reset.l = 0x4D ∧
  State.reset.sp = 0xFFFE ∧ State.reset.pc = 0x0100 ∧
  State.reset.flags = { z := true, n := false, h := true, c := true } ∧
  State.reset.get16 .af = 0x01B0 ∧ State.reset.get16 .bc = 0x0013 ∧ State.reset.get16 .de = 0x00D8 ∧
  State.reset.get16 .hl = 0x014D ∧
  ∀ (p : Platform) (m : Memory), SameCore State.reset (powerUp p m) ∧
    ∀ t, step (powerUp p m) = .next t → ∃ b rest, t.accesses = { kind := .fetch, addr := 0x0100, byte := b } :: rest

/-- R206: a launch is refused as malformed exactly when the image is not 0x8000 bytes, and no step ever refuses so.
The image size is the spec's decision D12 (log 13). That FlatRAM's lower half is held to that length too is the
model's choice (log 18). -/
def Obligations.MalformedRomRefusesOnlyTheLaunch : Prop :=
  (∀ (p : Platform) (rom : List Byte) (ram : Memory),
    launch p rom ram = .refused .malformedRom ↔ rom.length ≠ 0x8000) ∧
  ∀ s, step s ≠ .refused .malformedRom

/-- R45 with R230: what a launch on the Memory Map leaves. The core is as at reset, the ROM region reads the image, an
inert location reads UNATTACHED_READ, and a cell reads its initial contents (log 1 where nobody gave them). Rests on
the spec's decisions D12 and D13 (logs 1 and 13). -/
def Obligations.LaunchedMachineReadsItsImage : Prop :=
  ∀ (b : Backing) (u : Byte) (cb : CbRotShift) (rom : List Byte) (ram : Memory),
    rom.length = 0x8000 → legalPlatform { space := .map b, unattachedRead := u, cbRotShift := cb } = true →
    Memory.wf ram = true →
    ∃ t, launch { space := .map b, unattachedRead := u, cbRotShift := cb } rom ram = .next t ∧
      SameCore State.reset t ∧ t.Inv ∧
      (∀ a : Word, a.toNat < 0x8000 → rom[a.toNat]? = some (t.peek a)) ∧
      (∀ a, mapSlot b a = .inert → t.peek a = u) ∧
      (∀ a x, mapSlot b a = .cell x → t.peek a = Memory.byteAt ram x)

/-! ### The register file -/

/-- R25 (with the view of R24): a pair is its two halves, high byte first, for BC, DE and HL. -/
def Obligations.PairsAreViewsOfTheirHalves : Prop :=
  ∀ (s : State) (v : Word) (p : Reg16) (hi lo : Reg8),
    (p, hi, lo) ∈ [(Reg16.bc, Reg8.b, Reg8.c), (Reg16.de, Reg8.d, Reg8.e), (Reg16.hl, Reg8.h, Reg8.l)] →
    (s.get16 p).toNat = 256 * (s.get8 hi).toNat + (s.get8 lo).toNat ∧
    (s.set16 p v).get16 p = v ∧
    ((s.set16 p v).get8 hi).toNat = v.toNat / 256 ∧ ((s.set16 p v).get8 lo).toNat = v.toNat % 256 ∧
    (∀ r, r ≠ hi → r ≠ lo → (s.set16 p v).get8 r = s.get8 r) ∧
    (s.set16 p v).flags = s.flags ∧ (s.set16 p v).sp = s.sp ∧ (s.set16 p v).pc = s.pc ∧
    SameBytes s (s.set16 p v)

/-- R36: F holds the flags in its high nibble and zero in its low nibble. -/
def Obligations.FlagsPackIntoHighNibble : Prop :=
  (∀ f : Flags,
    (packFlags f).toNat = 128 * f.z.toNat + 64 * f.n.toNat + 32 * f.h.toNat + 16 * f.c.toNat ∧
    packFlags f &&& 0x0F = 0 ∧ unpackFlags (packFlags f) = f) ∧
  ∀ v : Byte, packFlags (unpackFlags v) = v &&& 0xF0

/-- The view AF of R26: writing it drops the low nibble. The dropped nibble is the spec's decision D18 (log 10). -/
def Obligations.AfWriteDropsTheLowNibble : Prop :=
  ∀ (s : State) (v : Word),
    (s.get16 .af).toNat = 256 * s.a.toNat + (packFlags s.flags).toNat ∧
    (s.set16 .af v).get16 .af = v &&& 0xFFF0 ∧
    (s.set16 .af v).a.toNat = v.toNat / 256 ∧
    (s.set16 .af v).flags = { z := v.getLsbD 7, n := v.getLsbD 6, h := v.getLsbD 5, c := v.getLsbD 4 } ∧
    (∀ r, r ≠ .a → (s.set16 .af v).get8 r = s.get8 r) ∧
    (s.set16 .af v).sp = s.sp ∧ (s.set16 .af v).pc = s.pc ∧ SameBytes s (s.set16 .af v)

/-! ### The Address Space -/

/-- R53: a word read is two byte reads, the low byte first, the address wrapping. -/
def Obligations.WordReadIsTwoByteReads : Prop :=
  ∀ (s : State) (k : AccessKind) (a : Word),
    (s.memReadWord k a).1.toNat = (s.peek a).toNat + 256 * (s.peek (a + 1)).toNat ∧
    (s.memReadWord k a).2 = { s with accesses := s.accesses ++
      [{ kind := k, addr := a, byte := s.peek a }, { kind := k, addr := a + 1, byte := s.peek (a + 1) }] } ∧
    (a = 0xFFFF → a + 1 = 0x0000)

/-- R54 and R55: a word written where both its bytes store reads back, each half the half stored there. Derived: no
instruction writes a word. -/
def Obligations.WrittenWordReadsBack : Prop :=
  ∀ (s : State) (k : AccessKind) (a v : Word), Stores s a → Stores s (a + 1) →
    ((s.memWriteWord a v).memReadWord k a).1 = v ∧
    ((s.memWriteWord a v).peek a).toNat = v.toNat % 256 ∧
    ((s.memWriteWord a v).peek (a + 1)).toNat = v.toNat / 256 ∧
    ∀ q, slotOf s.platform q ≠ slotOf s.platform a → slotOf s.platform q ≠ slotOf s.platform (a + 1) →
      (s.memWriteWord a v).peek q = s.peek q

/-- R62: the ten regions by their bounds and sizes, covering every address exactly once; all of them are unattached in the
source's map but ROM, and UNUSABLE is in every map. -/
def Obligations.RegionsByTheirBounds : Prop :=
  (∀ (a : Word) (r : Region) (lo hi size : Nat),
    (r, lo, hi, size) ∈ [(Region.rom, 0x0000, 0x7FFF, 32768), (Region.vram, 0x8000, 0x9FFF, 8192),
      (Region.xram, 0xA000, 0xBFFF, 8192), (Region.wram, 0xC000, 0xDFFF, 8192), (Region.echo, 0xE000, 0xFDFF, 7680),
      (Region.oam, 0xFE00, 0xFE9F, 160), (Region.unusable, 0xFEA0, 0xFEFF, 96), (Region.io, 0xFF00, 0xFF7F, 128),
      (Region.hram, 0xFF80, 0xFFFE, 127), (Region.ie, 0xFFFF, 0xFFFF, 1)] →
    (regionOf a = r ↔ lo ≤ a.toNat ∧ a.toNat ≤ hi) ∧ hi + 1 = lo + size) ∧
  (∀ a, slotOf Platform.source a = if a.toNat ≤ 0x7FFF then .rom a else .inert) ∧
  ∀ (a : Word) (b : Backing), regionOf a = .unusable → mapSlot b a = .inert

/-- R64: an inert location of the Memory Map reads UNATTACHED_READ and discards every write; UNUSABLE always is one.
Rests on the spec's decision D11 (log 2). -/
def Obligations.InertLocationsReadTheDefault : Prop :=
  (∀ (s : State) (b : Backing) (a : Word) (v : Byte), s.platform.space = .map b → regionInert b (regionOf a) = true →
    s.peek a = s.platform.unattachedRead ∧ SameBytes s (s.memWrite a v)) ∧
  ∀ b : Backing, regionInert b .unusable = true ∧ regionRam b .unusable = false

/-- R65: a location of a RAM-backed region of the Memory Map is one byte cell of its own (log 1: before the first
write it holds the free initial value); the next fetch of it reads the last write too (R72). Rests on the spec's
decisions D10 and D13 (logs 1 and 3). -/
def Obligations.RamLocationsKeepTheLastWrite : Prop :=
  ∀ (s : State) (b : Backing) (a : Word), s.platform.space = .map b → regionRam b (regionOf a) = true →
    (∀ v, (s.memWrite a v).peek a = v ∧ SameBytesBut a s (s.memWrite a v) ∧
      (fetch8 ((s.memWrite a v).setPc a)).1 = v) ∧
    (Memory.lookup s.mem a.toNat = none → s.peek a = Config.initialByte a.toNat) ∧
    (∀ q v, slotOf s.platform q ≠ slotOf s.platform a → (s.memWrite q v).peek a = s.peek a)

/-- R66: FlatRAM is 65536 independent byte cells, those below 0x8000 included, and the next fetch reads the last write
(R72). Rests on the spec's decision D10 (log 3). -/
def Obligations.FlatRamCellsAreIndependent : Prop :=
  ∀ (s : State) (a q : Word) (v : Byte), s.platform.space = .flat →
    (s.memWrite a v).peek a = v ∧ (q ≠ a → (s.memWrite a v).peek q = s.peek q) ∧
    s.peek a = Memory.byteAt s.mem a ∧ (fetch8 ((s.memWrite a v).setPc a)).1 = v

/-- R67: ECHO in the configuration `echo` is work RAM 0x2000 below, legal only over a RAM-backed WRAM. The mirror is
the spec's decision D20, from general knowledge (log 10). -/
def Obligations.EchoMirrorsWorkRam : Prop :=
  (∀ (s : State) (b : Backing) (a : Word) (v : Byte), s.platform.space = .map b → b.echo = .echo → b.wram = .ram →
    0xE000 ≤ a.toNat → a.toNat ≤ 0xFDFF →
    s.peek a = s.peek (a - 0x2000) ∧ (s.memWrite a v).peek (a - 0x2000) = v ∧
    (s.memWrite (a - 0x2000) v).peek a = v) ∧
  ∀ (b : Backing) (u : Byte) (cb : CbRotShift),
    legalPlatform { space := .map b, unattachedRead := u, cbRotShift := cb } = true ↔
      (b.echo = .echo → b.wram = .ram)

/-! ### Encoding -/

/-- For every well-formed instruction, with every operand value, decoding its encoding gives it back and leaves the
bytes after it. Which terms are well-formed is log 8. -/
def Obligations.DecodeOfEncodeIsTheInstruction : Prop :=
  ∀ (i : Instr) (rest : List Byte), WellFormed i → decode (encode i ++ rest) = .ok (i, rest)

/-- The other direction: bytes that decode are the encoding of a well-formed instruction, so no two byte patterns decode
to one instruction. -/
def Obligations.DecodedBytesAreTheEncoding : Prop :=
  ∀ (bytes rest : List Byte) (i : Instr), decode bytes = .ok (i, rest) → WellFormed i ∧ encode i ++ rest = bytes

/-- R93: the 216 bytes of its list, and no other, are unimplemented, and such a byte at PC faults. Which bytes are
admitted is the spec's decision D1 (log 10). The one fetch read in the fault (R74, an inference of the spec) stands
beside the record of R202 by the model's choice (log 7). -/
def Obligations.ListedBytesAreUnimplemented : Prop :=
  (∀ (op : Byte) (rest : List Byte), decode (op :: rest) = .error (.unimplemented op) ↔ unimplementedByte op = true) ∧
  ((List.range 256).filter fun k => unimplementedByte (BitVec.ofNat 8 k)).length = 216 ∧
  ∀ s : State, unimplementedByte (s.peek s.pc) = true →
    step s = .fault (.unimplementedOpcode ⟨false, s.peek s.pc, s.pc⟩ (fetchLog s 1))

/-- Words written out bit by bit from the spec's encodings decode to the instructions they stand for. The primary
bytes but 0xC3 and 0xCB are the spec's decision D1 (log 10); that `CB 37` is SWAP rests on the order of the eight
sub-groups, general knowledge in R94 (D9, log 4). -/
def Obligations.SpecWordsDecode : Prop :=
  decode [0b11000011, 0x50, 0x01] = .ok (.jp 0x0150, []) ∧
  decode [0b00110001, 0xFE, 0xFF] = .ok (.ldSP 0xFFFE, []) ∧
  decode [0b00001110, 0x10] = .ok (.ldC 0x10, []) ∧
  decode [0b00101000, 0xFE] = .ok (.jrZ 0xFE, []) ∧
  decode [0b00100010] = .ok (.stHLInc, []) ∧
  decode [0b11110000, 0x44] = .ok (.ldhLoad 0x44, []) ∧
  decode [0b00111101] = .ok (.decA, []) ∧
  decode [0b11001011, 0b01111100] = .ok (.bit7H, []) ∧
  decode [0b11001011, 0b10011110] = .ok (.res3HL, []) ∧
  decode [0b11001011, 0b11001011] = .ok (.set1E, []) ∧
  decode [0b11001011, 0b00110111] = .ok (.swapA, []) ∧
  decode [0b11010011] = .error (.unimplemented 0xD3)

/-- R91: the bit index is the integer quotient of the DIFFERENCE of the extended opcode and its group's base, and it is
the field `e[5:3]`. -/
def Obligations.BitIndexIsQuotientOfDifference : Prop :=
  ∀ e : Byte,
    (0x40 ≤ e.toNat → e.toNat < 0x80 → ∃ n : Fin 8, n.val = (e.toNat - 0x40) / 8 ∧ n.val = e.toNat / 8 % 8 ∧
      extOpOf e = .bit n) ∧
    (0x80 ≤ e.toNat → e.toNat < 0xC0 → ∃ n : Fin 8, n.val = (e.toNat - 0x80) / 8 ∧ n.val = e.toNat / 8 % 8 ∧
      extOpOf e = .res n) ∧
    (0xC0 ≤ e.toNat → ∃ n : Fin 8, n.val = (e.toNat - 0xC0) / 8 ∧ n.val = e.toNat / 8 % 8 ∧
      extOpOf e = .set n)

/-! ### The step -/

/-- A step runs the instruction that the bytes at PC decode to, in the state with all its bytes fetched and PC past
them, unless CB_ROTSHIFT leaves it unimplemented. An inference of the spec (R33, over R96) and of the model: that a
meaning runs with all bytes of its instruction fetched is log 15 (DEDUCED), that the reads are recorded is log 7, the
two readings of 0x00 to 0x3F are D9 (log 4). -/
def Obligations.StepRunsTheDecodedInstruction : Prop :=
  ∀ (s : State) (i : Instr) (rest : List Byte),
    decode [s.peek s.pc, s.peek (s.pc + 1), s.peek (s.pc + 2)] = .ok (i, rest) →
    ¬ (s.peek s.pc = 0xCB ∧ (s.peek (s.pc + 1)).toNat < 0x40 ∧ s.platform.cbRotShift = .unimplemented) →
    step s = exec i (s.afterFetch (3 - rest.length))

/-- A step faults exactly for the two causes of R200's table, each with its record and with the one or two fetch reads
that have happened (R74). The record is the spec's decision D15 (log 10), the two readings of 0x00 to 0x3F its D9 (log
4), the reads beside the record are log 7. -/
def Obligations.StepFaultsForTwoCauses : Prop :=
  ∀ (s : State) (r : Fault), step s = .fault r ↔
    (unimplementedByte (s.peek s.pc) = true ∧ r = .unimplementedOpcode ⟨false, s.peek s.pc, s.pc⟩ (fetchLog s 1)) ∨
    (s.peek s.pc = 0xCB ∧ (s.peek (s.pc + 1)).toNat < 0x40 ∧ s.platform.cbRotShift = .unimplemented ∧
      r = .unimplementedOpcode ⟨true, s.peek (s.pc + 1), s.pc⟩ (fetchLog s 2))

/-- R9: a step answers `Ok(cycles)` with one of four counts, or the fault with PC as it was, and nothing else. An
inference of the spec. -/
def Obligations.StepHasTwoOutcomes : Prop :=
  ∀ s : State,
    (∃ t, step s = .next t ∧ t.cycles ∈ [4, 8, 12, 16]) ∨
    (∃ prefixed opcode reads, step s = .fault (.unimplementedOpcode ⟨prefixed, opcode, s.pc⟩ reads))

/-- An admitted instruction raises nothing, it completes from every state; and a step raises nothing but
`UnimplementedOpcode` (R205). The four counts are an inference of the spec (R9). The model's choice, log 8: `exec` of
a rotate or shift completes under either value of CB_ROTSHIFT, which the fetch checks (R175), and the row PREFIX CB
has a meaning. -/
def Obligations.EveryInstructionCompletes : Prop :=
  (∀ (i : Instr) (s : State), ∃ t, exec i s = .next t ∧ t.cycles ∈ [4, 8, 12, 16]) ∧
  ∀ s : State, (∃ t, step s = .next t) ∨
    ∃ record reads, step s = .fault (.unimplementedOpcode record reads)

/-- The host's `withFetchWord` places a row's word so that the very next step runs what the decoder reads from it (log
11 says when the model itself changes the Address Space for that); a rotate or shift that CB_ROTSHIFT leaves
unimplemented (D9, log 4) faults there instead, and that is the one exception. The two fetch reads in that fault (R74,
an inference of the spec) stand beside the record of R202 by the model's choice (log 7). -/
def Obligations.PlacedWordRunsNext : Prop :=
  ∀ (s : State) (nbits w : Nat) (i : Instr), decodeTableWord nbits w = some i →
    ((∀ e, encode i = [0xCB, e] → e.toNat < 0x40 → s.platform.cbRotShift ≠ .unimplemented) →
      ∃ u, step (s.withFetchWord nbits w) = exec i u ∧ (∀ r, u.get8 r = s.get8 r) ∧ u.flags = s.flags ∧ u.sp = s.sp ∧
        u.pc = s.pc + BitVec.ofNat 16 (encode i).length) ∧
    ∀ e, encode i = [0xCB, e] → e.toNat < 0x40 → s.platform.cbRotShift = .unimplemented →
      step (s.withFetchWord nbits w) = .fault (.unimplementedOpcode ⟨true, e, s.pc⟩
        [{ kind := .fetch, addr := s.pc, byte := 0xCB }, { kind := .fetch, addr := s.pc + 1, byte := e }])

/-- What a fault depends on: PC, the byte there, and for 0xCB the byte after it and CB_ROTSHIFT. A step from any state
that agrees in these, whatever its registers, flags, outputs and other bytes of memory, is the same fault, so the
fault repeats for as long as they stand (R203, R209). An inference of the spec; the two readings of 0x00 to 0x3F are
its D9 (log 4). The same fault has the same fetch reads beside its record, which is log 7. -/
def Obligations.FaultDependsOnTheFetchedBytesAlone : Prop :=
  ∀ (s t : State) (r : Fault), step s = .fault r → t.pc = s.pc → t.peek s.pc = s.peek s.pc →
    (s.peek s.pc = 0xCB →
      t.peek (s.pc + 1) = s.peek (s.pc + 1) ∧ t.platform.cbRotShift = s.platform.cbRotShift) →
    step t = .fault r

/-! ### NOP and the jumps -/

/-- R112: an absolute jump changes only PC, to the immediate, which stands low byte first after the byte 0xC3. And the
effect of NOP (R110): nothing but what the fetch did. -/
def Obligations.NopAndAbsoluteJump : Prop :=
  ∀ (s : State) (a16 : Word),
    exec (.jp a16) s = .next { s with pc := a16, cycles := 16 } ∧
    (∃ lo hi : Byte, encode (.jp a16) = [0xC3, lo, hi] ∧ a16.toNat = 256 * hi.toNat + lo.toNat) ∧
    exec .nop s = .next { s with cycles := 4 }

/-- R111 and R113: the four predicates, and a conditional absolute jump taken and not taken. The predicates are the
spec's decision D2 (log 10). -/
def Obligations.ConditionalJumpFollowsItsFlag : Prop :=
  ∀ (s : State) (a16 : Word),
    (s.flags.z = false → exec (.jpNZ a16) s = .next { s with pc := a16, cycles := 16 } ∧
      exec (.jpZ a16) s = .next { s with cycles := 12 }) ∧
    (s.flags.z = true → exec (.jpZ a16) s = .next { s with pc := a16, cycles := 16 } ∧
      exec (.jpNZ a16) s = .next { s with cycles := 12 }) ∧
    (s.flags.c = false → exec (.jpNC a16) s = .next { s with pc := a16, cycles := 16 } ∧
      exec (.jpC a16) s = .next { s with cycles := 12 }) ∧
    (s.flags.c = true → exec (.jpC a16) s = .next { s with pc := a16, cycles := 16 } ∧
      exec (.jpNC a16) s = .next { s with cycles := 12 })

/-- R114: a taken relative jump adds the signed displacement to the address after the instruction, modulo 65536;
nothing but PC changes. The base of the displacement is the spec's decision D14 (log 10). -/
def Obligations.RelativeJumpAddsTheDisplacement : Prop :=
  ∀ (s : State) (r8 : Byte),
    ∃ target : Word, (target.toNat : Int) = ((s.pc.toNat : Int) + r8.toInt) % 65536 ∧
      exec (.jrNZ r8) s =
        (if s.flags.z = false then .next { s with pc := target, cycles := 12 } else .next { s with cycles := 8 }) ∧
      exec (.jrZ r8) s =
        (if s.flags.z = true then .next { s with pc := target, cycles := 12 } else .next { s with cycles := 8 }) ∧
      exec (.jrNC r8) s =
        (if s.flags.c = false then .next { s with pc := target, cycles := 12 } else .next { s with cycles := 8 }) ∧
      exec (.jrC r8) s =
        (if s.flags.c = true then .next { s with pc := target, cycles := 12 } else .next { s with cycles := 8 })

/-- A corner case of R112 as a run (R208 case c): `C3` followed by its own address runs for ever, 16 cycles a step. -/
def Obligations.JumpToItselfRunsForever : Prop :=
  ∀ s : State, s.peek s.pc = 0xC3 → bytesToWord (s.peek (s.pc + 2)) (s.peek (s.pc + 1)) = s.pc →
    RunsForever s ∧ ∀ k, elapsedCycles k s = 16 * k

/-! ### Immediate loads -/

/-- R120: the destination holds the immediate, for a pair the third byte in the first-named register; no flag, no
other register, no byte of memory changes. That SP is a destination is the spec's decision D4 (log 10). -/
def Obligations.LoadPairImmediate : Prop :=
  ∀ (s : State) (v : Word),
    (∃ t, exec (.ldBC v) s = .next t ∧ t.b.toNat = v.toNat / 256 ∧ t.c.toNat = v.toNat % 256 ∧ t.get16 .bc = v ∧
      t = { s with b := t.b, c := t.c, cycles := 12 }) ∧
    (∃ t, exec (.ldDE v) s = .next t ∧ t.d.toNat = v.toNat / 256 ∧ t.e.toNat = v.toNat % 256 ∧ t.get16 .de = v ∧
      t = { s with d := t.d, e := t.e, cycles := 12 }) ∧
    (∃ t, exec (.ldHL v) s = .next t ∧ t.h.toNat = v.toNat / 256 ∧ t.l.toNat = v.toNat % 256 ∧ t.get16 .hl = v ∧
      t = { s with h := t.h, l := t.l, cycles := 12 }) ∧
    exec (.ldSP v) s = .next { s with sp := v, cycles := 12 }

/-- R121: the register holds the immediate; nothing else changes, no flag for a zero. The opcode bytes are the spec's
decision D1 (log 10). -/
def Obligations.LoadRegisterImmediate : Prop :=
  ∀ (s : State) (r : Reg8) (v : Byte),
    ∃ t, exec (Instr.ldRegOf r v) s = .next t ∧ WroteRegister s t r v 8 ∧ t.flags = s.flags

/-! ### Stores and the I/O page -/

/-- R131 to R133: A is stored at the pair's value; no register changes and no byte outside the location. The three
pairs are the spec's decision D1 (log 10). -/
def Obligations.StoreAThroughPair : Prop :=
  ∀ s : State,
    (∃ t, exec .stBC s = .next t ∧ StoredByte s t (s.get16 .bc) s.a ∧ SameCore s t ∧ t.cycles = 8 ∧
      t.accesses = s.accesses ++ [{ kind := .write, addr := s.get16 .bc, byte := s.a }]) ∧
    (∃ t, exec .stDE s = .next t ∧ StoredByte s t (s.get16 .de) s.a ∧ SameCore s t ∧ t.cycles = 8 ∧
      t.accesses = s.accesses ++ [{ kind := .write, addr := s.get16 .de, byte := s.a }]) ∧
    (∃ t, exec .stHL s = .next t ∧ StoredByte s t (s.get16 .hl) s.a ∧ SameCore s t ∧ t.cycles = 8 ∧
      t.accesses = s.accesses ++ [{ kind := .write, addr := s.get16 .hl, byte := s.a }])

/-- R134 and R135: the store uses the old HL; HL then steps by one as one 16-bit value, wrapping, with no flag. The
opcode bytes are the spec's decision D1 (log 10). -/
def Obligations.StoreThenStepHL : Prop :=
  ∀ s : State,
    (∃ t, exec .stHLInc s = .next t ∧ StoredByte s t (s.get16 .hl) s.a ∧
      (t.get16 .hl).toNat = ((s.get16 .hl).toNat + 1) % 65536 ∧
      (∀ r, r ≠ .h → r ≠ .l → t.get8 r = s.get8 r) ∧ t.flags = s.flags ∧ t.sp = s.sp ∧ t.pc = s.pc ∧ t.cycles = 8 ∧
      t.accesses = s.accesses ++ [{ kind := .write, addr := s.get16 .hl, byte := s.a }]) ∧
    (∃ t, exec .stHLDec s = .next t ∧ StoredByte s t (s.get16 .hl) s.a ∧
      (t.get16 .hl).toNat = ((s.get16 .hl).toNat + 65535) % 65536 ∧
      (∀ r, r ≠ .h → r ≠ .l → t.get8 r = s.get8 r) ∧ t.flags = s.flags ∧ t.sp = s.sp ∧ t.pc = s.pc ∧ t.cycles = 8 ∧
      t.accesses = s.accesses ++ [{ kind := .write, addr := s.get16 .hl, byte := s.a }])

/-- R137 and R139, over the address of R136: A is stored at 0xFF00 plus the offset. That the register is C, and which
form stores, are the spec's decision D5 (log 10). -/
def Obligations.StoreAToTheIoPage : Prop :=
  ∀ (s : State) (a8 : Byte),
    (∃ t x, exec (.ldhStore a8) s = .next t ∧ x.toNat = 0xFF00 + a8.toNat ∧ StoredByte s t x s.a ∧ SameCore s t ∧
      t.cycles = 12 ∧ t.accesses = s.accesses ++ [{ kind := .write, addr := x, byte := s.a }]) ∧
    (∃ t x, exec .stIoC s = .next t ∧ x.toNat = 0xFF00 + s.c.toNat ∧ StoredByte s t x s.a ∧ SameCore s t ∧
      t.cycles = 8 ∧ t.accesses = s.accesses ++ [{ kind := .write, addr := x, byte := s.a }])

/-- R138 and R140, over the address of R136: A is loaded from 0xFF00 plus the offset; nothing is stored. That the
register is C, and which form loads, are the spec's decision D5 (log 10). -/
def Obligations.LoadAFromTheIoPage : Prop :=
  ∀ (s : State) (a8 : Byte),
    (∃ t x, exec (.ldhLoad a8) s = .next t ∧ x.toNat = 0xFF00 + a8.toNat ∧
      t = { s with a := s.peek x, cycles := 12, accesses := s.accesses ++ [⟨.read, x, s.peek x⟩] } ∧ SameBytes s t) ∧
    (∃ t x, exec .ldIoC s = .next t ∧ x.toNat = 0xFF00 + s.c.toNat ∧
      t = { s with a := s.peek x, cycles := 8, accesses := s.accesses ++ [⟨.read, x, s.peek x⟩] } ∧ SameBytes s t)

/-! ### Arithmetic and logic -/

/-- R145: A becomes zero and the flags their constants, whatever A and the flags held. That the register is A is the
spec's decision D6 (log 10). -/
def Obligations.XorAClearsA : Prop :=
  ∀ s : State, exec .xorA s =
    .next { s with a := 0x00, flags := { z := true, n := false, h := false, c := false }, cycles := 4 }

/-- R146: the subtraction primitive in numbers. -/
def Obligations.SubtractionWrapsAndBorrows : Prop :=
  ∀ a b : Byte,
    ((sub8 a b).res.toNat : Int) = ((a.toNat : Int) - b.toNat) % 256 ∧
    ((sub8 a b).borrow = true ↔ a.toNat < b.toNat) ∧
    ((sub8 a b).half = true ↔ a.toNat % 16 < b.toNat % 16) ∧
    ((sub8 a b).res = 0 ↔ a = b)

/-- R147: the register wraps down by one, Z, N and H are written, Carry is kept. That Carry is kept is the spec's
decision D8 (log 10). -/
def Obligations.DecrementRegister : Prop :=
  ∀ (s : State) (r : Reg8),
    ∃ t res, exec (Instr.decOf r) s = .next t ∧ res.toNat = ((s.get8 r).toNat + 255) % 256 ∧
      WroteRegister s t r res 4 ∧
      t.flags = { z := res == 0, n := true, h := (s.get8 r).toNat % 16 == 0, c := s.flags.c }

/-- R149: the four flags of the unsigned comparison; A and every other register are unchanged. The opcode byte is the
spec's decision D1 (log 10). -/
def Obligations.CompareImmediate : Prop :=
  ∀ (s : State) (d8 : Byte),
    ∃ t, exec (.cp d8) s = .next t ∧ KeptRegisters s t 8 ∧
      (t.flags.z = true ↔ s.a = d8) ∧ t.flags.n = true ∧
      (t.flags.h = true ↔ s.a.toNat % 16 < d8.toNat % 16) ∧ (t.flags.c = true ↔ s.a.toNat < d8.toNat)

/-! ### The extended table -/

/-- The row PREFIX CB runs the instruction that R94 assigns to its extended opcode, 16 cycles for `(HL)` and else 8
(R160). The count is the spec's decision D16 (log 10), the assignment of 0x00 to 0x3F its D9 (log 4). The model's
choice, log 8: the row has a meaning of its own, and it completes under either value of CB_ROTSHIFT, which the fetch
checks. -/
def Obligations.PrefixRunsTheExtendedInstruction : Prop :=
  ∀ (e : Byte) (s : State), ∃ t, exec (.prefixCB e) s = .next t ∧ exec (extended e) s = .next t ∧
    t.cycles = (if e.toNat % 8 = 6 then 16 else 8) ∧
    ∀ rest, decode (0xCB :: e :: rest) = .ok (extended e, rest)

/-- R162 and R163: Z is the negation of the bit, N is cleared, H set, Carry kept; nothing is written back. -/
def Obligations.BitTestsTheOperand : Prop :=
  ∀ (s : State) (n : Fin 8),
    (∀ r, encode (Instr.bitOf n (.reg r)) = [0xCB, BitVec.ofNat 8 (0x40 + 8 * n.val + fieldOfReg r)]) ∧
    encode (Instr.bitOf n .mem) = [0xCB, BitVec.ofNat 8 (0x46 + 8 * n.val)] ∧
    (∀ r, ∃ t, exec (Instr.bitOf n (.reg r)) s = .next t ∧ KeptRegisters s t 8 ∧
      (t.flags.z = true ↔ (s.get8 r).toNat / 2 ^ n.val % 2 = 0) ∧
      t.flags.n = false ∧ t.flags.h = true ∧ t.flags.c = s.flags.c) ∧
    (∃ t, exec (Instr.bitOf n .mem) s = .next t ∧ SameCore s { t with flags := s.flags } ∧ SameBytes s t ∧
      t.mem = s.mem ∧ t.platform = s.platform ∧ t.cycles = 16 ∧
      t.accesses = s.accesses ++ [{ kind := .read, addr := s.get16 .hl, byte := s.peek (s.get16 .hl) }] ∧
      (t.flags.z = true ↔ (s.peek (s.get16 .hl)).toNat / 2 ^ n.val % 2 = 0) ∧
      t.flags.n = false ∧ t.flags.h = true ∧ t.flags.c = s.flags.c)

/-- R164 to R167: RES forces bit n to 0 and SET to 1, every other bit is kept, and no flag changes. -/
def Obligations.ResAndSetForceTheBit : Prop :=
  ∀ (s : State) (n : Fin 8),
    (∀ r, encode (Instr.resOf n (.reg r)) = [0xCB, BitVec.ofNat 8 (0x80 + 8 * n.val + fieldOfReg r)]) ∧
    encode (Instr.resOf n .mem) = [0xCB, BitVec.ofNat 8 (0x86 + 8 * n.val)] ∧
    (∀ r, encode (Instr.setOf n (.reg r)) = [0xCB, BitVec.ofNat 8 (0xC0 + 8 * n.val + fieldOfReg r)]) ∧
    encode (Instr.setOf n .mem) = [0xCB, BitVec.ofNat 8 (0xC6 + 8 * n.val)] ∧
    (∀ r, ∃ t res, exec (Instr.resOf n (.reg r)) s = .next t ∧ WroteRegister s t r res 8 ∧ t.flags = s.flags ∧
      ∀ i, i < 8 → res.getLsbD i = if i = n.val then false else (s.get8 r).getLsbD i) ∧
    (∃ t res, exec (Instr.resOf n .mem) s = .next t ∧ RewroteByteAtHL s t res ∧ t.flags = s.flags ∧
      ∀ i, i < 8 → res.getLsbD i = if i = n.val then false else (s.peek (s.get16 .hl)).getLsbD i) ∧
    (∀ r, ∃ t res, exec (Instr.setOf n (.reg r)) s = .next t ∧ WroteRegister s t r res 8 ∧ t.flags = s.flags ∧
      ∀ i, i < 8 → res.getLsbD i = if i = n.val then true else (s.get8 r).getLsbD i) ∧
    (∃ t res, exec (Instr.setOf n .mem) s = .next t ∧ RewroteByteAtHL s t res ∧ t.flags = s.flags ∧
      ∀ i, i < 8 → res.getLsbD i = if i = n.val then true else (s.peek (s.get16 .hl)).getLsbD i)

/-- R168: the laws of BIT, RES and SET on one operand; for `(HL)` where the location stores. An inference of the spec.
-/
def Obligations.BitOperationLaws : Prop :=
  ∀ (s t u : State) (n : Fin 8) (z : Operand), (z = .mem → Stores s (s.get16 .hl)) →
    (exec (Instr.resOf n z) s = .next t → exec (Instr.bitOf n z) t = .next u → u.flags.z = true) ∧
    (exec (Instr.setOf n z) s = .next t → exec (Instr.bitOf n z) t = .next u → u.flags.z = false) ∧
    (exec (Instr.setOf n z) s = .next t → exec (Instr.resOf n z) t = .next u → ∀ i, i < 8 →
      (readOperand z u).1.getLsbD i = if i = n.val then false else (readOperand z s).1.getLsbD i) ∧
    (exec (Instr.bitOf n z) s = .next t →
      (readOperand z t).1 = (readOperand z s).1 ∧ t.flags.c = s.flags.c ∧ SameBytes s t)

/-- R176 and R177: bit i moves to bit i + 1, bit 7 to bit 0 and to Carry. From the spec's general knowledge, its
decision D9 (log 4). -/
def Obligations.RlcRotatesLeft : Prop :=
  ∀ s : State,
    (∀ r, ∃ t res, exec (Instr.rlcOf (.reg r)) s = .next t ∧ WroteRegister s t r res 8 ∧
      (∀ i, i < 8 → res.getLsbD ((i + 1) % 8) = (s.get8 r).getLsbD i) ∧
      t.flags = { z := res == 0, n := false, h := false, c := (s.get8 r).getLsbD 7 }) ∧
    (∃ t res, exec (Instr.rlcOf .mem) s = .next t ∧ RewroteByteAtHL s t res ∧
      (∀ i, i < 8 → res.getLsbD ((i + 1) % 8) = (s.peek (s.get16 .hl)).getLsbD i) ∧
      t.flags = { z := res == 0, n := false, h := false, c := (s.peek (s.get16 .hl)).getLsbD 7 })

/-- R178 and R179: bit i + 1 moves to bit i, bit 0 to bit 7 and to Carry. From the spec's general knowledge, its
decision D9 (log 4). -/
def Obligations.RrcRotatesRight : Prop :=
  ∀ s : State,
    (∀ r, ∃ t res, exec (Instr.rrcOf (.reg r)) s = .next t ∧ WroteRegister s t r res 8 ∧
      (∀ i, i < 8 → res.getLsbD i = (s.get8 r).getLsbD ((i + 1) % 8)) ∧
      t.flags = { z := res == 0, n := false, h := false, c := (s.get8 r).getLsbD 0 }) ∧
    (∃ t res, exec (Instr.rrcOf .mem) s = .next t ∧ RewroteByteAtHL s t res ∧
      (∀ i, i < 8 → res.getLsbD i = (s.peek (s.get16 .hl)).getLsbD ((i + 1) % 8)) ∧
      t.flags = { z := res == 0, n := false, h := false, c := (s.peek (s.get16 .hl)).getLsbD 0 })

/-- R180 and R181: the 9-bit rotation of Carry and operand to the left. From the spec's general knowledge, its
decision D9 (log 4). -/
def Obligations.RlRotatesLeftThroughCarry : Prop :=
  ∀ s : State,
    (∀ r, ∃ t res, exec (Instr.rlOf (.reg r)) s = .next t ∧ WroteRegister s t r res 8 ∧
      t.flags.c.toNat * 256 + res.toNat = 2 * (s.get8 r).toNat + s.flags.c.toNat ∧
      t.flags.z = (res == 0) ∧ t.flags.n = false ∧ t.flags.h = false) ∧
    (∃ t res, exec (Instr.rlOf .mem) s = .next t ∧ RewroteByteAtHL s t res ∧
      t.flags.c.toNat * 256 + res.toNat = 2 * (s.peek (s.get16 .hl)).toNat + s.flags.c.toNat ∧
      t.flags.z = (res == 0) ∧ t.flags.n = false ∧ t.flags.h = false)

/-- R182 and R183: the 9-bit rotation of operand and Carry to the right. From the spec's general knowledge, its
decision D9 (log 4). -/
def Obligations.RrRotatesRightThroughCarry : Prop :=
  ∀ s : State,
    (∀ r, ∃ t res, exec (Instr.rrOf (.reg r)) s = .next t ∧ WroteRegister s t r res 8 ∧
      2 * res.toNat + t.flags.c.toNat = (s.get8 r).toNat + s.flags.c.toNat * 256 ∧
      t.flags.z = (res == 0) ∧ t.flags.n = false ∧ t.flags.h = false) ∧
    (∃ t res, exec (Instr.rrOf .mem) s = .next t ∧ RewroteByteAtHL s t res ∧
      2 * res.toNat + t.flags.c.toNat = (s.peek (s.get16 .hl)).toNat + s.flags.c.toNat * 256 ∧
      t.flags.z = (res == 0) ∧ t.flags.n = false ∧ t.flags.h = false)

/-- R186 and R187: half of the signed operand, rounded down, bit 0 to Carry. From the spec's general knowledge, its
decision D9 (log 4). -/
def Obligations.SraHalvesSigned : Prop :=
  ∀ s : State,
    (∀ r, ∃ t res, exec (Instr.sraOf (.reg r)) s = .next t ∧ WroteRegister s t r res 8 ∧
      2 * res.toInt + t.flags.c.toNat = (s.get8 r).toInt ∧
      t.flags.z = (res == 0) ∧ t.flags.n = false ∧ t.flags.h = false) ∧
    (∃ t res, exec (Instr.sraOf .mem) s = .next t ∧ RewroteByteAtHL s t res ∧
      2 * res.toInt + t.flags.c.toNat = (s.peek (s.get16 .hl)).toInt ∧
      t.flags.z = (res == 0) ∧ t.flags.n = false ∧ t.flags.h = false)

/-- R188 and R189: the nibbles change places, Carry is cleared. From the spec's general knowledge, its decision D9
(log 4). -/
def Obligations.SwapExchangesNibbles : Prop :=
  ∀ s : State,
    (∀ r, ∃ t res, exec (Instr.swapOf (.reg r)) s = .next t ∧ WroteRegister s t r res 8 ∧
      res.toNat = (s.get8 r).toNat % 16 * 16 + (s.get8 r).toNat / 16 ∧
      t.flags = { z := res == 0, n := false, h := false, c := false }) ∧
    (∃ t res, exec (Instr.swapOf .mem) s = .next t ∧ RewroteByteAtHL s t res ∧
      res.toNat = (s.peek (s.get16 .hl)).toNat % 16 * 16 + (s.peek (s.get16 .hl)).toNat / 16 ∧
      t.flags = { z := res == 0, n := false, h := false, c := false })

/-- R184 and R185: SLA is twice the operand, its ninth bit to Carry. R190 and R191: SRL is half of the unsigned
operand, bit 0 to Carry. From the spec's general knowledge, its decision D9 (log 4). -/
def Obligations.SlaDoublesAndSrlHalves : Prop :=
  ∀ s : State,
    (∀ r, ∃ t res, exec (Instr.slaOf (.reg r)) s = .next t ∧ WroteRegister s t r res 8 ∧
      t.flags.c.toNat * 256 + res.toNat = 2 * (s.get8 r).toNat ∧
      t.flags.z = (res == 0) ∧ t.flags.n = false ∧ t.flags.h = false) ∧
    (∃ t res, exec (Instr.slaOf .mem) s = .next t ∧ RewroteByteAtHL s t res ∧
      t.flags.c.toNat * 256 + res.toNat = 2 * (s.peek (s.get16 .hl)).toNat ∧
      t.flags.z = (res == 0) ∧ t.flags.n = false ∧ t.flags.h = false) ∧
    (∀ r, ∃ t res, exec (Instr.srlOf (.reg r)) s = .next t ∧ WroteRegister s t r res 8 ∧
      2 * res.toNat + t.flags.c.toNat = (s.get8 r).toNat ∧
      t.flags.z = (res == 0) ∧ t.flags.n = false ∧ t.flags.h = false) ∧
    (∃ t res, exec (Instr.srlOf .mem) s = .next t ∧ RewroteByteAtHL s t res ∧
      2 * res.toNat + t.flags.c.toNat = (s.peek (s.get16 .hl)).toNat ∧
      t.flags.z = (res == 0) ∧ t.flags.n = false ∧ t.flags.h = false)

/-! ### Whole-machine rules -/

/-- The invariant holds at reset. -/
def Obligations.ResetMeetsTheInvariant : Prop := State.reset.Inv

/-- Every step keeps the invariant, from every state that has it, and changes no launch parameter (R21). -/
def Obligations.StepKeepsTheInvariant : Prop :=
  ∀ s t : State, s.Inv → step s = .next t → t.Inv ∧ t.platform = s.platform

/-- On the Memory Map no step changes a byte of the cartridge image (R63: immutable after load). Rests on the spec's
decision D12 (log 13). -/
def Obligations.RomImageNeverChanges : Prop :=
  ∀ (s t : State) (b : Backing), s.platform.space = .map b → step s = .next t →
    t.platform.space = .map b ∧ ∀ a : Word, a.toNat ≤ 0x7FFF →
      t.peek a = s.peek a ∧ Memory.lookup t.mem a.toNat = Memory.lookup s.mem a.toNat

/-- On the source's all-inert map no store is ever observable (R232), in however many steps. An inference of the spec.
-/
def Obligations.InertMapHidesEveryStore : Prop :=
  ∀ (k : Nat) (s t : State), s.platform.space = .map Backing.allInert → CompletesIn k s t → SameBytes s t

/-- A byte that a step changes is the one byte of a recorded write, and reads as the byte written (R52, R57). The
record of accesses is the model's field (log 7). -/
def Obligations.OnlyARecordedWriteChangesAByte : Prop :=
  ∀ (s t : State) (a : Word), step s = .next t → t.peek a ≠ s.peek a →
    ∃ x v, { kind := .write, addr := x, byte := v } ∈ t.accesses ∧
      slotOf s.platform a = slotOf s.platform x ∧ t.peek a = v

/-- A completed step's accesses are the fetches of its bytes in ascending order, then at most one data read, then at
most one data write, both at one address; a faulting step's are its fetch reads alone, one for a primary fault and two
for an extended one (R57, R74). The order is the spec's decision D19, the records are the model's (log 7). -/
def Obligations.AccessesInOrder : Prop :=
  (∀ s t : State, step s = .next t → ∃ n data,
    (primary (s.peek s.pc)).map Shape.length = some n ∧ t.accesses = fetchLog s n ++ data ∧
    (data = [] ∨ (∃ a v, data = [{ kind := .read, addr := a, byte := v }]) ∨
      (∃ a v, data = [{ kind := .write, addr := a, byte := v }]) ∨
      ∃ a v w, data = [{ kind := .read, addr := a, byte := v }, { kind := .write, addr := a, byte := w }])) ∧
  ∀ (s : State) (record : FaultRecord) (reads : List Access),
    step s = .fault (.unimplementedOpcode record reads) →
    reads = fetchLog s (if record.prefixed then 2 else 1)

/-- A step of anything but a jump leaves PC past the instruction's bytes (R33). An inference of the spec; which bytes
are jumps is, but for 0xC3, its decision D1 (log 10). -/
def Obligations.OnlyJumpsLeaveTheSequence : Prop :=
  ∀ (s t : State) (n : Nat), step s = .next t → jumpByte (s.peek s.pc) = false →
    (primary (s.peek s.pc)).map Shape.length = some n → t.pc = s.pc + BitVec.ofNat 16 n

/-- A step changes no flag that the table of R37 does not give its instruction. Rests on the spec's decisions D8 and
D9 (logs 4 and 10). -/
def Obligations.FlagsChangeOnlyByTheTable : Prop :=
  ∀ s t : State, step s = .next t →
    (writesFlags (s.peek s.pc) (s.peek (s.pc + 1)) = false → t.flags = s.flags) ∧
    (writesCarry (s.peek s.pc) (s.peek (s.pc + 1)) = false → t.flags.c = s.flags.c)

/-- A step changes no register that the table of R23 does not give its instruction, and SP only by `LD SP,d16` (R29).
An inference of the spec; the bytes of the table, 0x31 for `LD SP,d16` among them, are its decisions D1 and D4 (log
10), and that a rotate or shift writes its operand is its D9 (log 4). -/
def Obligations.RegistersChangeOnlyByTheTable : Prop :=
  ∀ s t : State, step s = .next t →
    (∀ r, writesReg (s.peek s.pc) (s.peek (s.pc + 1)) r = false → t.get8 r = s.get8 r) ∧
    (s.peek s.pc ≠ 0x31 → t.sp = s.sp)

/-- N and H are read by no instruction (R38): two states that differ in them alone step alike, up to them. An
inference of the spec. A fault is the same with its fetch reads (log 7). -/
def Obligations.NoStepReadsNOrH : Prop :=
  ∀ (s : State) (n h : Bool),
    (∀ t, step s = .next t → ∃ n' h',
      step { s with flags := { s.flags with n := n, h := h } } =
        .next { t with flags := { t.flags with n := n', h := h' } }) ∧
    (∀ r, step s = .fault r → step { s with flags := { s.flags with n := n, h := h } } = .fault r)

/-- SP is read by no instruction (R29, an inference of the spec): two states that differ in it alone step alike, up to
it. That the byte 0x31 is the one that loads SP is the spec's decisions D1 and D4 (log 10). And no rule reads the
cycle count of the step before (R235, log 6), nor the model's own record of its accesses (log 7). -/
def Obligations.NoStepReadsSpOrTheLastOutput : Prop :=
  (∀ (s : State) (x : Word),
    (∀ t, step s = .next t → step { s with sp := x } = .next { t with sp := if s.peek s.pc = 0x31 then t.sp else x }) ∧
    (∀ r, step s = .fault r → step { s with sp := x } = .fault r)) ∧
  ∀ (s : State) (n : Nat) (log : List Access), step { s with cycles := n, accesses := log } = step s
end

