-- ==== Sys2Proof/Laws/State.lean ====
section
/-! SUPPORT. One lemma per field per update of State, so that no later proof unfolds a record update. -/

namespace Sys2Proof.Machine

@[simp] theorem setFlags_a (s : State) (f : Flags) : (s.setFlags f).a = s.a := rfl
@[simp] theorem setFlags_b (s : State) (f : Flags) : (s.setFlags f).b = s.b := rfl
@[simp] theorem setFlags_c (s : State) (f : Flags) : (s.setFlags f).c = s.c := rfl
@[simp] theorem setFlags_d (s : State) (f : Flags) : (s.setFlags f).d = s.d := rfl
@[simp] theorem setFlags_e (s : State) (f : Flags) : (s.setFlags f).e = s.e := rfl
@[simp] theorem setFlags_h (s : State) (f : Flags) : (s.setFlags f).h = s.h := rfl
@[simp] theorem setFlags_l (s : State) (f : Flags) : (s.setFlags f).l = s.l := rfl
@[simp] theorem setFlags_sp (s : State) (f : Flags) : (s.setFlags f).sp = s.sp := rfl
@[simp] theorem setFlags_pc (s : State) (f : Flags) : (s.setFlags f).pc = s.pc := rfl
@[simp] theorem setFlags_mem (s : State) (f : Flags) : (s.setFlags f).mem = s.mem := rfl
@[simp] theorem setFlags_platform (s : State) (f : Flags) : (s.setFlags f).platform = s.platform := rfl
@[simp] theorem setFlags_cycles (s : State) (f : Flags) : (s.setFlags f).cycles = s.cycles := rfl
@[simp] theorem setFlags_accesses (s : State) (f : Flags) : (s.setFlags f).accesses = s.accesses := rfl
@[simp] theorem setFlags_flags (s : State) (f : Flags) : (s.setFlags f).flags = f := rfl

@[simp] theorem setPc_a (s : State) (v : Word) : (s.setPc v).a = s.a := rfl
@[simp] theorem setPc_b (s : State) (v : Word) : (s.setPc v).b = s.b := rfl
@[simp] theorem setPc_c (s : State) (v : Word) : (s.setPc v).c = s.c := rfl
@[simp] theorem setPc_d (s : State) (v : Word) : (s.setPc v).d = s.d := rfl
@[simp] theorem setPc_e (s : State) (v : Word) : (s.setPc v).e = s.e := rfl
@[simp] theorem setPc_h (s : State) (v : Word) : (s.setPc v).h = s.h := rfl
@[simp] theorem setPc_l (s : State) (v : Word) : (s.setPc v).l = s.l := rfl
@[simp] theorem setPc_flags (s : State) (v : Word) : (s.setPc v).flags = s.flags := rfl
@[simp] theorem setPc_sp (s : State) (v : Word) : (s.setPc v).sp = s.sp := rfl
@[simp] theorem setPc_mem (s : State) (v : Word) : (s.setPc v).mem = s.mem := rfl
@[simp] theorem setPc_platform (s : State) (v : Word) : (s.setPc v).platform = s.platform := rfl
@[simp] theorem setPc_cycles (s : State) (v : Word) : (s.setPc v).cycles = s.cycles := rfl
@[simp] theorem setPc_accesses (s : State) (v : Word) : (s.setPc v).accesses = s.accesses := rfl
@[simp] theorem setPc_pc (s : State) (v : Word) : (s.setPc v).pc = v := rfl

@[simp] theorem logAccess_a (s : State) (k : AccessKind) (a : Word) (v : Byte) : (s.logAccess k a v).a = s.a := rfl
@[simp] theorem logAccess_b (s : State) (k : AccessKind) (a : Word) (v : Byte) : (s.logAccess k a v).b = s.b := rfl
@[simp] theorem logAccess_c (s : State) (k : AccessKind) (a : Word) (v : Byte) : (s.logAccess k a v).c = s.c := rfl
@[simp] theorem logAccess_d (s : State) (k : AccessKind) (a : Word) (v : Byte) : (s.logAccess k a v).d = s.d := rfl
@[simp] theorem logAccess_e (s : State) (k : AccessKind) (a : Word) (v : Byte) : (s.logAccess k a v).e = s.e := rfl
@[simp] theorem logAccess_h (s : State) (k : AccessKind) (a : Word) (v : Byte) : (s.logAccess k a v).h = s.h := rfl
@[simp] theorem logAccess_l (s : State) (k : AccessKind) (a : Word) (v : Byte) : (s.logAccess k a v).l = s.l := rfl
@[simp] theorem logAccess_flags (s : State) (k : AccessKind) (a : Word) (v : Byte) : (s.logAccess k a v).flags = s.flags := rfl
@[simp] theorem logAccess_sp (s : State) (k : AccessKind) (a : Word) (v : Byte) : (s.logAccess k a v).sp = s.sp := rfl
@[simp] theorem logAccess_pc (s : State) (k : AccessKind) (a : Word) (v : Byte) : (s.logAccess k a v).pc = s.pc := rfl
@[simp] theorem logAccess_mem (s : State) (k : AccessKind) (a : Word) (v : Byte) : (s.logAccess k a v).mem = s.mem := rfl
@[simp] theorem logAccess_platform (s : State) (k : AccessKind) (a : Word) (v : Byte) : (s.logAccess k a v).platform = s.platform := rfl
@[simp] theorem logAccess_cycles (s : State) (k : AccessKind) (a : Word) (v : Byte) : (s.logAccess k a v).cycles = s.cycles := rfl
@[simp] theorem logAccess_accesses (s : State) (k : AccessKind) (a : Word) (v : Byte) :
    (s.logAccess k a v).accesses = s.accesses ++ [{ kind := k, addr := a, byte := v }] := rfl

@[simp] theorem memWrite_a (s : State) (a : Word) (v : Byte) : (s.memWrite a v).a = s.a := rfl
@[simp] theorem memWrite_b (s : State) (a : Word) (v : Byte) : (s.memWrite a v).b = s.b := rfl
@[simp] theorem memWrite_c (s : State) (a : Word) (v : Byte) : (s.memWrite a v).c = s.c := rfl
@[simp] theorem memWrite_d (s : State) (a : Word) (v : Byte) : (s.memWrite a v).d = s.d := rfl
@[simp] theorem memWrite_e (s : State) (a : Word) (v : Byte) : (s.memWrite a v).e = s.e := rfl
@[simp] theorem memWrite_h (s : State) (a : Word) (v : Byte) : (s.memWrite a v).h = s.h := rfl
@[simp] theorem memWrite_l (s : State) (a : Word) (v : Byte) : (s.memWrite a v).l = s.l := rfl
@[simp] theorem memWrite_flags (s : State) (a : Word) (v : Byte) : (s.memWrite a v).flags = s.flags := rfl
@[simp] theorem memWrite_sp (s : State) (a : Word) (v : Byte) : (s.memWrite a v).sp = s.sp := rfl
@[simp] theorem memWrite_pc (s : State) (a : Word) (v : Byte) : (s.memWrite a v).pc = s.pc := rfl
@[simp] theorem memWrite_platform (s : State) (a : Word) (v : Byte) : (s.memWrite a v).platform = s.platform := rfl
@[simp] theorem memWrite_cycles (s : State) (a : Word) (v : Byte) : (s.memWrite a v).cycles = s.cycles := rfl
@[simp] theorem memWrite_mem (s : State) (a : Word) (v : Byte) :
    (s.memWrite a v).mem = storeByte s.platform s.mem a v := rfl
@[simp] theorem memWrite_accesses (s : State) (a : Word) (v : Byte) :
    (s.memWrite a v).accesses = s.accesses ++ [{ kind := .write, addr := a, byte := v }] := rfl

@[simp] theorem set8_flags (s : State) (r : Reg8) (v : Byte) : (s.set8 r v).flags = s.flags := by cases r <;> rfl
@[simp] theorem set8_sp (s : State) (r : Reg8) (v : Byte) : (s.set8 r v).sp = s.sp := by cases r <;> rfl
@[simp] theorem set8_pc (s : State) (r : Reg8) (v : Byte) : (s.set8 r v).pc = s.pc := by cases r <;> rfl
@[simp] theorem set8_mem (s : State) (r : Reg8) (v : Byte) : (s.set8 r v).mem = s.mem := by cases r <;> rfl
@[simp] theorem set8_platform (s : State) (r : Reg8) (v : Byte) : (s.set8 r v).platform = s.platform := by cases r <;> rfl
@[simp] theorem set8_cycles (s : State) (r : Reg8) (v : Byte) : (s.set8 r v).cycles = s.cycles := by cases r <;> rfl
@[simp] theorem set8_accesses (s : State) (r : Reg8) (v : Byte) : (s.set8 r v).accesses = s.accesses := by cases r <;> rfl

@[simp] theorem set16_mem (s : State) (p : Reg16) (v : Word) : (s.set16 p v).mem = s.mem := by cases p <;> rfl
@[simp] theorem set16_platform (s : State) (p : Reg16) (v : Word) : (s.set16 p v).platform = s.platform := by cases p <;> rfl
@[simp] theorem set16_cycles (s : State) (p : Reg16) (v : Word) : (s.set16 p v).cycles = s.cycles := by cases p <;> rfl
@[simp] theorem set16_accesses (s : State) (p : Reg16) (v : Word) : (s.set16 p v).accesses = s.accesses := by cases p <;> rfl

theorem get8_set8_same (s : State) (r : Reg8) (v : Byte) : (s.set8 r v).get8 r = v := by cases r <;> rfl

theorem get8_set8_other (s : State) (r q : Reg8) (v : Byte) (h : q ≠ r) : (s.set8 r v).get8 q = s.get8 q := by
  cases r <;> cases q <;> first | rfl | exact absurd rfl h

@[simp] theorem get8_setFlags (s : State) (f : Flags) (r : Reg8) : (s.setFlags f).get8 r = s.get8 r := by
  cases r <;> rfl

@[simp] theorem get8_setPc (s : State) (v : Word) (r : Reg8) : (s.setPc v).get8 r = s.get8 r := by cases r <;> rfl

@[simp] theorem get8_logAccess (s : State) (k : AccessKind) (a : Word) (v : Byte) (r : Reg8) :
    (s.logAccess k a v).get8 r = s.get8 r := by
  cases r <;> rfl

@[simp] theorem get8_memWrite (s : State) (a : Word) (v : Byte) (r : Reg8) : (s.memWrite a v).get8 r = s.get8 r := by
  cases r <;> rfl

@[simp] theorem get16_logAccess (s : State) (k : AccessKind) (a : Word) (v : Byte) (p : Reg16) :
    (s.logAccess k a v).get16 p = s.get16 p := by
  cases p <;> rfl

@[simp] theorem get16_memWrite (s : State) (a : Word) (v : Byte) (p : Reg16) :
    (s.memWrite a v).get16 p = s.get16 p := by
  cases p <;> rfl

/-- What the byte codec puts together it takes apart (spec/20_memory.md R55). -/
@[simp] theorem wordToBytes_bytesToWord (hi lo : Byte) : wordToBytes (bytesToWord hi lo) = (hi, lo) := by
  have hh : (bytesToWord hi lo).extractLsb' 8 8 = hi := BitVec.extractLsb'_append_eq_left (a := hi) (b := lo)
  have hl : (bytesToWord hi lo).extractLsb' 0 8 = lo := BitVec.extractLsb'_append_eq_right (a := hi) (b := lo)
  simp only [wordToBytes, hh, hl]

/-- The word of two bytes as a number: the first is worth 256 times its value. -/
theorem bytesToWord_toNat (hi lo : Byte) : (bytesToWord hi lo).toNat = hi.toNat * 256 + lo.toNat := by
  have h : (bytesToWord hi lo).toNat = hi.toNat <<< 8 ||| lo.toNat := BitVec.toNat_append hi lo
  rw [h, ← Nat.shiftLeft_add_eq_or_of_lt (by omega), Nat.shiftLeft_eq]

/-- Every word is the word of its two bytes. -/
@[simp] theorem bytesToWord_wordToBytes (v : Word) : bytesToWord (wordToBytes v).1 (wordToBytes v).2 = v := by
  apply BitVec.eq_of_toNat_eq
  rw [bytesToWord_toNat]
  simp only [wordToBytes, BitVec.extractLsb'_toNat, Nat.shiftRight_eq_div_pow]
  omega

end Sys2Proof.Machine
end

