-- ==== Sys2Proof/Laws/Memory.lean ====
section
/-! SUPPORT. What the memory operations do: read after write, and the canonical form kept. -/

namespace Sys2Proof.Machine

theorem Memory.lookup_store_same (m : Memory) (a : Nat) (v : Byte) : Memory.lookup (Memory.store m a v) a = some v := by
  induction m with
  | nil => simp [Memory.store, Memory.lookup]
  | cons x m ih =>
    obtain ⟨b, w⟩ := x
    unfold Memory.store
    split
    · simp [Memory.lookup]
    · split
      · simp [Memory.lookup]
      · simpa [Memory.lookup, ‹¬a = b›] using ih

theorem Memory.lookup_store_other (m : Memory) (a q : Nat) (v : Byte) (h : q ≠ a) :
    Memory.lookup (Memory.store m a v) q = Memory.lookup m q := by
  induction m with
  | nil => simp [Memory.store, Memory.lookup, h]
  | cons x m ih =>
    obtain ⟨b, w⟩ := x
    unfold Memory.store
    split
    · simp [Memory.lookup, h]
    · split
      · next _ hab => subst hab; simp [Memory.lookup, h]
      · simp [Memory.lookup, ih]

theorem Memory.risesFrom_mono (m : Memory) (lo lo' : Nat) (h : lo' ≤ lo) (hm : Memory.risesFrom lo m = true) :
    Memory.risesFrom lo' m = true := by
  cases m with
  | nil => rfl
  | cons x m =>
    obtain ⟨a, v⟩ := x
    simp only [Memory.risesFrom, Bool.and_eq_true, decide_eq_true_eq] at hm ⊢
    exact ⟨⟨by omega, hm.1.2⟩, hm.2⟩

theorem Memory.risesFrom_store (m : Memory) (lo a : Nat) (v : Byte) (hlo : lo ≤ a) (ha : a < 0x10000)
    (hm : Memory.risesFrom lo m = true) : Memory.risesFrom lo (Memory.store m a v) = true := by
  induction m generalizing lo with
  | nil => simp [Memory.store, Memory.risesFrom, hlo, ha]
  | cons x m ih =>
    obtain ⟨b, w⟩ := x
    simp only [Memory.risesFrom, Bool.and_eq_true, decide_eq_true_eq] at hm
    unfold Memory.store
    split
    · simp only [Memory.risesFrom, Bool.and_eq_true, decide_eq_true_eq]
      exact ⟨⟨hlo, ha⟩, ⟨by omega, hm.1.2⟩, hm.2⟩
    · split
      · next _ hab => subst hab; simpa only [Memory.risesFrom, Bool.and_eq_true, decide_eq_true_eq] using hm
      · simp only [Memory.risesFrom, Bool.and_eq_true, decide_eq_true_eq]
        exact ⟨hm.1, ih (b + 1) (by omega) hm.2⟩

/-- Storing at an address of the Address Space keeps the canonical form. -/
theorem Memory.wf_store (m : Memory) (x : Word) (v : Byte) (hm : Memory.wf m = true) :
    Memory.wf (Memory.store m x.toNat v) = true :=
  Memory.risesFrom_store m 0 x.toNat v (Nat.zero_le _) x.isLt hm

/-- A write keeps the canonical form, whatever the location does with it. -/
theorem wf_storeByte (p : Platform) (m : Memory) (a : Word) (v : Byte) (hm : Memory.wf m = true) :
    Memory.wf (storeByte p m a v) = true := by
  unfold storeByte
  split
  · exact Memory.wf_store m _ v hm
  · exact hm
  · exact hm

/-- Placing a program's byte keeps the canonical form. -/
theorem wf_placeByte (p : Platform) (m : Memory) (a : Word) (v : Byte) (hm : Memory.wf m = true) :
    Memory.wf (placeByte p m a v) = true := by
  unfold placeByte
  split
  · exact Memory.wf_store m _ v hm
  · exact Memory.wf_store m _ v hm
  · exact hm

theorem wf_placeAtPc (s : State) (b0 b1 b2 : Byte) (hm : Memory.wf s.mem = true) :
    Memory.wf (s.placeAtPc b0 b1 b2).mem = true :=
  wf_placeByte _ _ _ _ (wf_placeByte _ _ _ _ (wf_placeByte _ _ _ _ hm))

/-- Nothing is stored at reset, and that is canonical. -/
theorem wf_reset : Memory.wf State.reset.mem = true := rfl

theorem Memory.byteAt_store_same (m : Memory) (x : Word) (v : Byte) :
    Memory.byteAt (Memory.store m x.toNat v) x = v := by
  simp [Memory.byteAt, Memory.lookup_store_same]

theorem Memory.byteAt_store_other (m : Memory) (x y : Word) (v : Byte) (h : y ≠ x) :
    Memory.byteAt (Memory.store m x.toNat v) y = Memory.byteAt m y := by
  have hn : y.toNat ≠ x.toNat := fun e => h (BitVec.eq_of_toNat_eq e)
  simp [Memory.byteAt, Memory.lookup_store_other m x.toNat y.toNat v hn]

/-- What `peek` reads depends on memory and the platform alone. -/
theorem peek_congr (s t : State) (a : Word) (hm : t.mem = s.mem) (hp : t.platform = s.platform) :
    t.peek a = s.peek a := by
  simp only [State.peek, hm, hp]

@[simp] theorem peek_setFlags (s : State) (f : Flags) (a : Word) : (s.setFlags f).peek a = s.peek a := rfl

@[simp] theorem peek_setPc (s : State) (v a : Word) : (s.setPc v).peek a = s.peek a := rfl

@[simp] theorem peek_logAccess (s : State) (k : AccessKind) (x : Word) (v : Byte) (a : Word) :
    (s.logAccess k x v).peek a = s.peek a := rfl

@[simp] theorem peek_set8 (s : State) (r : Reg8) (v : Byte) (a : Word) : (s.set8 r v).peek a = s.peek a := by
  cases r <;> rfl

@[simp] theorem peek_set16 (s : State) (p : Reg16) (v a : Word) : (s.set16 p v).peek a = s.peek a := by
  cases p <;> rfl

/-- In the Memory Map a location of the ROM region is its image byte, and no other location is one. -/
theorem mapSlot_rom (b : Backing) (a : Word) (h : a.toNat ≤ 0x7FFF) : mapSlot b a = .rom a := by
  simp [mapSlot, regionOf, h]

theorem storeSlot_cell (k : Store) (a x : Word) (h : storeSlot k a = .cell x) : x = a := by
  cases k <;> simp [storeSlot] at h
  exact h.symm

/-- A cell of the Memory Map lies above the ROM region. -/
theorem mapSlot_cell (b : Backing) (a x : Word) (h : mapSlot b a = .cell x) : 0x8000 ≤ x.toNat := by
  by_cases hrom : a.toNat ≤ 0x7FFF
  · simp [mapSlot_rom b a hrom] at h
  · have hecho : regionOf a = .echo → 0xE000 ≤ a.toNat := by
      unfold regionOf
      repeat' split
      all_goals first | (intro hc; omega) | (intro hc; cases hc)
    unfold mapSlot at h
    split at h
    all_goals first
      | (rw [storeSlot_cell _ _ _ h]; omega)
      | (split at h
         · cases h
         · have := hecho ‹_›
           rw [storeSlot_cell _ _ _ h]
           bv_omega)
      | cases h

end Sys2Proof.Machine
end

