-- ==== Sys2Proof/Laws/Operations.lean ====
section
/-! SUPPORT. What each shared operation of the meanings does, said once: the next state it answers. -/

namespace Sys2Proof.Machine

/-! ### Operands -/

@[simp] theorem readOperand_reg (r : Reg8) (s : State) : readOperand (.reg r) s = (s.get8 r, s) := rfl

@[simp] theorem readOperand_mem (s : State) :
    readOperand .mem s = (s.peek (s.get16 .hl), s.logAccess .read (s.get16 .hl) (s.peek (s.get16 .hl))) := rfl

@[simp] theorem writeOperand_reg (r : Reg8) (v : Byte) (s : State) : writeOperand (.reg r) v s = s.set8 r v := rfl

@[simp] theorem writeOperand_mem (v : Byte) (s : State) : writeOperand .mem v s = s.memWrite (s.get16 .hl) v := rfl

@[simp] theorem baseCycles_reg (r : Reg8) : baseCycles (.reg r) = 8 := rfl

@[simp] theorem baseCycles_mem : baseCycles .mem = 16 := rfl

/-- The I/O-page address is the offset above 0xFF00 (spec/42_store_and_io_page.md R136). -/
theorem ioAddress_toNat (o : Byte) : (ioAddress o).toNat = 0xFF00 + o.toNat := by
  have h : (ioAddress o).toNat = 0xFF <<< 8 ||| o.toNat := by
    simp only [ioAddress, BitVec.toNat_or, BitVec.zeroExtend_eq_setWidth, BitVec.toNat_setWidth]
    rw [Nat.mod_eq_of_lt (by omega : o.toNat < 2 ^ 16)]
    rfl
  rw [h, ← Nat.shiftLeft_add_eq_or_of_lt (by omega), show 0xFF <<< 8 = 0xFF00 from rfl]

/-! ### Fetching -/

theorem fetch8_eq (s : State) :
    fetch8 s = (s.peek s.pc, (s.logAccess .fetch s.pc (s.peek s.pc)).setPc (s.pc + 1)) := rfl

theorem fetch16_eq (s : State) :
    fetch16 s =
      (bytesToWord (s.peek (s.pc + 1)) (s.peek s.pc),
        (((s.logAccess .fetch s.pc (s.peek s.pc)).setPc (s.pc + 1)).logAccess .fetch (s.pc + 1)
          (s.peek (s.pc + 1))).setPc (s.pc + 1 + 1)) := rfl

/-- A step fetches, and then faults or runs the instruction. -/
theorem step_eq (s : State) :
    step s = match fetchInstr { s with accesses := [] } with
      | .error r => .fault r
      | .ok (i, s') => exec i s' := rfl

/-! ### Meanings -/

theorem finish_eq (n : Nat) (s : State) : finish n s = .next { s with cycles := n } := rfl

theorem rotShift_reg (f : RotShift) (r : Reg8) (s : State) :
    rotShift f (.reg r) s =
      finish 8 ((s.set8 r (f s.flags.c (s.get8 r)).1).setFlags
        (flagsAfterRotShift (f s.flags.c (s.get8 r)).1 (f s.flags.c (s.get8 r)).2)) := rfl

theorem rotShift_mem (f : RotShift) (s : State) :
    rotShift f .mem s =
      finish 16 (((s.logAccess .read (s.get16 .hl) (s.peek (s.get16 .hl))).memWrite (s.get16 .hl)
        (f s.flags.c (s.peek (s.get16 .hl))).1).setFlags
        (flagsAfterRotShift (f s.flags.c (s.peek (s.get16 .hl))).1 (f s.flags.c (s.peek (s.get16 .hl))).2)) := rfl

theorem bitTest_reg (n : Fin 8) (r : Reg8) (s : State) :
    bitTest n (.reg r) s = finish 8 (s.setFlags (flagsAfterBit n (s.get8 r) s.flags)) := rfl

theorem bitTest_mem (n : Fin 8) (s : State) :
    bitTest n .mem s =
      finish 16 ((s.logAccess .read (s.get16 .hl) (s.peek (s.get16 .hl))).setFlags
        (flagsAfterBit n (s.peek (s.get16 .hl)) s.flags)) := rfl

theorem modifyOperand_reg (f : Byte → Byte) (r : Reg8) (s : State) :
    modifyOperand f (.reg r) s = finish 8 (s.set8 r (f (s.get8 r))) := rfl

theorem modifyOperand_mem (f : Byte → Byte) (s : State) :
    modifyOperand f .mem s =
      finish 16 ((s.logAccess .read (s.get16 .hl) (s.peek (s.get16 .hl))).memWrite (s.get16 .hl)
        (f (s.peek (s.get16 .hl)))) := rfl

/-- Every constructor of the extended table runs the operation of its row on the operand of its column. -/
theorem exec_extOf (op : ExtOp) (z : Operand) (s : State) : exec (Instr.extOf op z) s = extendedOp op z s := by
  cases op with
  | bit n | res n | set n => fin_cases n <;> (cases z with | reg r => cases r <;> rfl | mem => rfl)
  | _ => cases z with
    | reg r => cases r <;> rfl
    | mem => rfl

theorem exec_ldPairOf (p : Pair) (v : Word) (s : State) : exec (Instr.ldPairOf p v) s = loadPair p v s := by
  cases p <;> rfl

theorem exec_ldRegOf (r : Reg8) (v : Byte) (s : State) : exec (Instr.ldRegOf r v) s = loadReg r v s := by
  cases r <;> rfl

theorem exec_decOf (r : Reg8) (s : State) : exec (Instr.decOf r) s = decReg r s := by cases r <;> rfl

theorem exec_jpOf (cc : Cond) (a16 : Word) (s : State) : exec (Instr.jpOf cc a16) s = jumpCond cc a16 s := by
  cases cc <;> rfl

theorem exec_jrOf (cc : Cond) (r8 : Byte) (s : State) : exec (Instr.jrOf cc r8) s = jumpRelCond cc r8 s := by
  cases cc <;> rfl

end Sys2Proof.Machine
end

