-- ==== Sys2Proof/Laws/Families.lean ====
section
/-! SUPPORT. The instructions by families: a property of every instruction follows from one case per family, the 256
extended constructors being one family over their operation and operand. -/

namespace Sys2Proof

theorem Instr.byFamily {P : Instr → Prop} (nop : P .nop) (jp : ∀ a16, P (.jp a16))
    (jpcc : ∀ cc a16, P (Instr.jpOf cc a16)) (jrcc : ∀ cc r8, P (Instr.jrOf cc r8))
    (ldPair : ∀ p v, P (Instr.ldPairOf p v)) (ldReg : ∀ r v, P (Instr.ldRegOf r v)) (stBC : P .stBC) (stDE : P .stDE)
    (stHL : P .stHL) (stHLInc : P .stHLInc) (stHLDec : P .stHLDec) (ldhStore : ∀ a8, P (.ldhStore a8))
    (ldhLoad : ∀ a8, P (.ldhLoad a8)) (stIoC : P .stIoC) (ldIoC : P .ldIoC) (xorA : P .xorA)
    (dec : ∀ r, P (Instr.decOf r)) (cp : ∀ d8, P (.cp d8)) (prefixCB : ∀ e, P (.prefixCB e))
    (ext : ∀ op z, P (Instr.extOf op z)) (i : Instr) : P i :=
  match i with
  | .nop => nop
  | .ldBC d16 => ldPair .bc d16
  | .stBC => stBC
  | .decB => dec .b
  | .ldB d8 => ldReg .b d8
  | .decC => dec .c
  | .ldC d8 => ldReg .c d8
  | .ldDE d16 => ldPair .de d16
  | .stDE => stDE
  | .decD => dec .d
  | .ldD d8 => ldReg .d d8
  | .decE => dec .e
  | .ldE d8 => ldReg .e d8
  | .jrNZ r8 => jrcc .nz r8
  | .ldHL d16 => ldPair .hl d16
  | .stHLInc => stHLInc
  | .decH => dec .h
  | .ldH d8 => ldReg .h d8
  | .jrZ r8 => jrcc .z r8
  | .decL => dec .l
  | .ldL d8 => ldReg .l d8
  | .jrNC r8 => jrcc .nc r8
  | .ldSP d16 => ldPair .sp d16
  | .stHLDec => stHLDec
  | .jrC r8 => jrcc .c r8
  | .decA => dec .a
  | .ldA d8 => ldReg .a d8
  | .stHL => stHL
  | .xorA => xorA
  | .jpNZ a16 => jpcc .nz a16
  | .jp a16 => jp a16
  | .jpZ a16 => jpcc .z a16
  | .prefixCB e => prefixCB e
  | .jpNC a16 => jpcc .nc a16
  | .jpC a16 => jpcc .c a16
  | .ldhStore a8 => ldhStore a8
  | .stIoC => stIoC
  | .ldhLoad a8 => ldhLoad a8
  | .ldIoC => ldIoC
  | .cp d8 => cp d8
  | .rlcB => ext .rlc (.reg .b)
  | .rlcC => ext .rlc (.reg .c)
  | .rlcD => ext .rlc (.reg .d)
  | .rlcE => ext .rlc (.reg .e)
  | .rlcH => ext .rlc (.reg .h)
  | .rlcL => ext .rlc (.reg .l)
  | .rlcHL => ext .rlc .mem
  | .rlcA => ext .rlc (.reg .a)
  | .rrcB => ext .rrc (.reg .b)
  | .rrcC => ext .rrc (.reg .c)
  | .rrcD => ext .rrc (.reg .d)
  | .rrcE => ext .rrc (.reg .e)
  | .rrcH => ext .rrc (.reg .h)
  | .rrcL => ext .rrc (.reg .l)
  | .rrcHL => ext .rrc .mem
  | .rrcA => ext .rrc (.reg .a)
  | .rlB => ext .rl (.reg .b)
  | .rlC => ext .rl (.reg .c)
  | .rlD => ext .rl (.reg .d)
  | .rlE => ext .rl (.reg .e)
  | .rlH => ext .rl (.reg .h)
  | .rlL => ext .rl (.reg .l)
  | .rlHL => ext .rl .mem
  | .rlA => ext .rl (.reg .a)
  | .rrB => ext .rr (.reg .b)
  | .rrC => ext .rr (.reg .c)
  | .rrD => ext .rr (.reg .d)
  | .rrE => ext .rr (.reg .e)
  | .rrH => ext .rr (.reg .h)
  | .rrL => ext .rr (.reg .l)
  | .rrHL => ext .rr .mem
  | .rrA => ext .rr (.reg .a)
  | .slaB => ext .sla (.reg .b)
  | .slaC => ext .sla (.reg .c)
  | .slaD => ext .sla (.reg .d)
  | .slaE => ext .sla (.reg .e)
  | .slaH => ext .sla (.reg .h)
  | .slaL => ext .sla (.reg .l)
  | .slaHL => ext .sla .mem
  | .slaA => ext .sla (.reg .a)
  | .sraB => ext .sra (.reg .b)
  | .sraC => ext .sra (.reg .c)
  | .sraD => ext .sra (.reg .d)
  | .sraE => ext .sra (.reg .e)
  | .sraH => ext .sra (.reg .h)
  | .sraL => ext .sra (.reg .l)
  | .sraHL => ext .sra .mem
  | .sraA => ext .sra (.reg .a)
  | .swapB => ext .swap (.reg .b)
  | .swapC => ext .swap (.reg .c)
  | .swapD => ext .swap (.reg .d)
  | .swapE => ext .swap (.reg .e)
  | .swapH => ext .swap (.reg .h)
  | .swapL => ext .swap (.reg .l)
  | .swapHL => ext .swap .mem
  | .swapA => ext .swap (.reg .a)
  | .srlB => ext .srl (.reg .b)
  | .srlC => ext .srl (.reg .c)
  | .srlD => ext .srl (.reg .d)
  | .srlE => ext .srl (.reg .e)
  | .srlH => ext .srl (.reg .h)
  | .srlL => ext .srl (.reg .l)
  | .srlHL => ext .srl .mem
  | .srlA => ext .srl (.reg .a)
  | .bit0B => ext (.bit 0) (.reg .b)
  | .bit0C => ext (.bit 0) (.reg .c)
  | .bit0D => ext (.bit 0) (.reg .d)
  | .bit0E => ext (.bit 0) (.reg .e)
  | .bit0H => ext (.bit 0) (.reg .h)
  | .bit0L => ext (.bit 0) (.reg .l)
  | .bit0HL => ext (.bit 0) .mem
  | .bit0A => ext (.bit 0) (.reg .a)
  | .bit1B => ext (.bit 1) (.reg .b)
  | .bit1C => ext (.bit 1) (.reg .c)
  | .bit1D => ext (.bit 1) (.reg .d)
  | .bit1E => ext (.bit 1) (.reg .e)
  | .bit1H => ext (.bit 1) (.reg .h)
  | .bit1L => ext (.bit 1) (.reg .l)
  | .bit1HL => ext (.bit 1) .mem
  | .bit1A => ext (.bit 1) (.reg .a)
  | .bit2B => ext (.bit 2) (.reg .b)
  | .bit2C => ext (.bit 2) (.reg .c)
  | .bit2D => ext (.bit 2) (.reg .d)
  | .bit2E => ext (.bit 2) (.reg .e)
  | .bit2H => ext (.bit 2) (.reg .h)
  | .bit2L => ext (.bit 2) (.reg .l)
  | .bit2HL => ext (.bit 2) .mem
  | .bit2A => ext (.bit 2) (.reg .a)
  | .bit3B => ext (.bit 3) (.reg .b)
  | .bit3C => ext (.bit 3) (.reg .c)
  | .bit3D => ext (.bit 3) (.reg .d)
  | .bit3E => ext (.bit 3) (.reg .e)
  | .bit3H => ext (.bit 3) (.reg .h)
  | .bit3L => ext (.bit 3) (.reg .l)
  | .bit3HL => ext (.bit 3) .mem
  | .bit3A => ext (.bit 3) (.reg .a)
  | .bit4B => ext (.bit 4) (.reg .b)
  | .bit4C => ext (.bit 4) (.reg .c)
  | .bit4D => ext (.bit 4) (.reg .d)
  | .bit4E => ext (.bit 4) (.reg .e)
  | .bit4H => ext (.bit 4) (.reg .h)
  | .bit4L => ext (.bit 4) (.reg .l)
  | .bit4HL => ext (.bit 4) .mem
  | .bit4A => ext (.bit 4) (.reg .a)
  | .bit5B => ext (.bit 5) (.reg .b)
  | .bit5C => ext (.bit 5) (.reg .c)
  | .bit5D => ext (.bit 5) (.reg .d)
  | .bit5E => ext (.bit 5) (.reg .e)
  | .bit5H => ext (.bit 5) (.reg .h)
  | .bit5L => ext (.bit 5) (.reg .l)
  | .bit5HL => ext (.bit 5) .mem
  | .bit5A => ext (.bit 5) (.reg .a)
  | .bit6B => ext (.bit 6) (.reg .b)
  | .bit6C => ext (.bit 6) (.reg .c)
  | .bit6D => ext (.bit 6) (.reg .d)
  | .bit6E => ext (.bit 6) (.reg .e)
  | .bit6H => ext (.bit 6) (.reg .h)
  | .bit6L => ext (.bit 6) (.reg .l)
  | .bit6HL => ext (.bit 6) .mem
  | .bit6A => ext (.bit 6) (.reg .a)
  | .bit7B => ext (.bit 7) (.reg .b)
  | .bit7C => ext (.bit 7) (.reg .c)
  | .bit7D => ext (.bit 7) (.reg .d)
  | .bit7E => ext (.bit 7) (.reg .e)
  | .bit7H => ext (.bit 7) (.reg .h)
  | .bit7L => ext (.bit 7) (.reg .l)
  | .bit7HL => ext (.bit 7) .mem
  | .bit7A => ext (.bit 7) (.reg .a)
  | .res0B => ext (.res 0) (.reg .b)
  | .res0C => ext (.res 0) (.reg .c)
  | .res0D => ext (.res 0) (.reg .d)
  | .res0E => ext (.res 0) (.reg .e)
  | .res0H => ext (.res 0) (.reg .h)
  | .res0L => ext (.res 0) (.reg .l)
  | .res0HL => ext (.res 0) .mem
  | .res0A => ext (.res 0) (.reg .a)
  | .res1B => ext (.res 1) (.reg .b)
  | .res1C => ext (.res 1) (.reg .c)
  | .res1D => ext (.res 1) (.reg .d)
  | .res1E => ext (.res 1) (.reg .e)
  | .res1H => ext (.res 1) (.reg .h)
  | .res1L => ext (.res 1) (.reg .l)
  | .res1HL => ext (.res 1) .mem
  | .res1A => ext (.res 1) (.reg .a)
  | .res2B => ext (.res 2) (.reg .b)
  | .res2C => ext (.res 2) (.reg .c)
  | .res2D => ext (.res 2) (.reg .d)
  | .res2E => ext (.res 2) (.reg .e)
  | .res2H => ext (.res 2) (.reg .h)
  | .res2L => ext (.res 2) (.reg .l)
  | .res2HL => ext (.res 2) .mem
  | .res2A => ext (.res 2) (.reg .a)
  | .res3B => ext (.res 3) (.reg .b)
  | .res3C => ext (.res 3) (.reg .c)
  | .res3D => ext (.res 3) (.reg .d)
  | .res3E => ext (.res 3) (.reg .e)
  | .res3H => ext (.res 3) (.reg .h)
  | .res3L => ext (.res 3) (.reg .l)
  | .res3HL => ext (.res 3) .mem
  | .res3A => ext (.res 3) (.reg .a)
  | .res4B => ext (.res 4) (.reg .b)
  | .res4C => ext (.res 4) (.reg .c)
  | .res4D => ext (.res 4) (.reg .d)
  | .res4E => ext (.res 4) (.reg .e)
  | .res4H => ext (.res 4) (.reg .h)
  | .res4L => ext (.res 4) (.reg .l)
  | .res4HL => ext (.res 4) .mem
  | .res4A => ext (.res 4) (.reg .a)
  | .res5B => ext (.res 5) (.reg .b)
  | .res5C => ext (.res 5) (.reg .c)
  | .res5D => ext (.res 5) (.reg .d)
  | .res5E => ext (.res 5) (.reg .e)
  | .res5H => ext (.res 5) (.reg .h)
  | .res5L => ext (.res 5) (.reg .l)
  | .res5HL => ext (.res 5) .mem
  | .res5A => ext (.res 5) (.reg .a)
  | .res6B => ext (.res 6) (.reg .b)
  | .res6C => ext (.res 6) (.reg .c)
  | .res6D => ext (.res 6) (.reg .d)
  | .res6E => ext (.res 6) (.reg .e)
  | .res6H => ext (.res 6) (.reg .h)
  | .res6L => ext (.res 6) (.reg .l)
  | .res6HL => ext (.res 6) .mem
  | .res6A => ext (.res 6) (.reg .a)
  | .res7B => ext (.res 7) (.reg .b)
  | .res7C => ext (.res 7) (.reg .c)
  | .res7D => ext (.res 7) (.reg .d)
  | .res7E => ext (.res 7) (.reg .e)
  | .res7H => ext (.res 7) (.reg .h)
  | .res7L => ext (.res 7) (.reg .l)
  | .res7HL => ext (.res 7) .mem
  | .res7A => ext (.res 7) (.reg .a)
  | .set0B => ext (.set 0) (.reg .b)
  | .set0C => ext (.set 0) (.reg .c)
  | .set0D => ext (.set 0) (.reg .d)
  | .set0E => ext (.set 0) (.reg .e)
  | .set0H => ext (.set 0) (.reg .h)
  | .set0L => ext (.set 0) (.reg .l)
  | .set0HL => ext (.set 0) .mem
  | .set0A => ext (.set 0) (.reg .a)
  | .set1B => ext (.set 1) (.reg .b)
  | .set1C => ext (.set 1) (.reg .c)
  | .set1D => ext (.set 1) (.reg .d)
  | .set1E => ext (.set 1) (.reg .e)
  | .set1H => ext (.set 1) (.reg .h)
  | .set1L => ext (.set 1) (.reg .l)
  | .set1HL => ext (.set 1) .mem
  | .set1A => ext (.set 1) (.reg .a)
  | .set2B => ext (.set 2) (.reg .b)
  | .set2C => ext (.set 2) (.reg .c)
  | .set2D => ext (.set 2) (.reg .d)
  | .set2E => ext (.set 2) (.reg .e)
  | .set2H => ext (.set 2) (.reg .h)
  | .set2L => ext (.set 2) (.reg .l)
  | .set2HL => ext (.set 2) .mem
  | .set2A => ext (.set 2) (.reg .a)
  | .set3B => ext (.set 3) (.reg .b)
  | .set3C => ext (.set 3) (.reg .c)
  | .set3D => ext (.set 3) (.reg .d)
  | .set3E => ext (.set 3) (.reg .e)
  | .set3H => ext (.set 3) (.reg .h)
  | .set3L => ext (.set 3) (.reg .l)
  | .set3HL => ext (.set 3) .mem
  | .set3A => ext (.set 3) (.reg .a)
  | .set4B => ext (.set 4) (.reg .b)
  | .set4C => ext (.set 4) (.reg .c)
  | .set4D => ext (.set 4) (.reg .d)
  | .set4E => ext (.set 4) (.reg .e)
  | .set4H => ext (.set 4) (.reg .h)
  | .set4L => ext (.set 4) (.reg .l)
  | .set4HL => ext (.set 4) .mem
  | .set4A => ext (.set 4) (.reg .a)
  | .set5B => ext (.set 5) (.reg .b)
  | .set5C => ext (.set 5) (.reg .c)
  | .set5D => ext (.set 5) (.reg .d)
  | .set5E => ext (.set 5) (.reg .e)
  | .set5H => ext (.set 5) (.reg .h)
  | .set5L => ext (.set 5) (.reg .l)
  | .set5HL => ext (.set 5) .mem
  | .set5A => ext (.set 5) (.reg .a)
  | .set6B => ext (.set 6) (.reg .b)
  | .set6C => ext (.set 6) (.reg .c)
  | .set6D => ext (.set 6) (.reg .d)
  | .set6E => ext (.set 6) (.reg .e)
  | .set6H => ext (.set 6) (.reg .h)
  | .set6L => ext (.set 6) (.reg .l)
  | .set6HL => ext (.set 6) .mem
  | .set6A => ext (.set 6) (.reg .a)
  | .set7B => ext (.set 7) (.reg .b)
  | .set7C => ext (.set 7) (.reg .c)
  | .set7D => ext (.set 7) (.reg .d)
  | .set7E => ext (.set 7) (.reg .e)
  | .set7H => ext (.set 7) (.reg .h)
  | .set7L => ext (.set 7) (.reg .l)
  | .set7HL => ext (.set 7) .mem
  | .set7A => ext (.set 7) (.reg .a)

end Sys2Proof
end

