-- ==== Sys2Proof/Laws/Step.lean ====
section
/-! SUPPORT. What one step does, said once: the fault, or the meaning of the instruction that the bytes at PC stand for,
run in the state with those bytes fetched. -/

namespace Sys2Proof.Machine

/-- What a fetch records. -/
theorem afterFetch_accesses (s : State) (n : Nat) : (s.afterFetch n).accesses = fetchLog s n := rfl

theorem afterFetch_one (s : State) :
    s.afterFetch 1 = (({ s with accesses := [] } : State).logAccess .fetch s.pc (s.peek s.pc)).setPc (s.pc + 1) := by
  simp [State.afterFetch, fetchLog, State.logAccess, State.setPc, List.range_succ]

theorem afterFetch_two (s : State) :
    s.afterFetch 2 =
      ((s.afterFetch 1).logAccess .fetch (s.pc + 1) (s.peek (s.pc + 1))).setPc (s.pc + 1 + 1) := by
  simp [State.afterFetch, fetchLog, State.logAccess, State.setPc, List.range_succ, BitVec.add_assoc]

theorem afterFetch_three (s : State) :
    s.afterFetch 3 =
      ((s.afterFetch 2).logAccess .fetch (s.pc + 1 + 1) (s.peek (s.pc + 1 + 1))).setPc (s.pc + 1 + 1 + 1) := by
  simp [State.afterFetch, fetchLog, State.logAccess, State.setPc, List.range_succ, BitVec.add_assoc]

/-- The record of the step before does not matter to what a byte reads as. -/
theorem peek_clear (s : State) (log : List Access) (a : Word) :
    ({ s with accesses := log } : State).peek a = s.peek a := rfl

theorem step_unimplemented (s : State) (h : primary (s.peek s.pc) = none) :
    step s = .fault (.unimplementedOpcode ⟨false, s.peek s.pc, s.pc⟩ (fetchLog s 1)) := by
  rw [← afterFetch_accesses, afterFetch_one]
  simp only [step_eq, fetchInstr, fetch8_eq, peek_clear, h, raiseUnimplemented, setPc_accesses]

theorem step_op (s : State) (i : Instr) (h : primary (s.peek s.pc) = some (.op i)) :
    step s = exec i (s.afterFetch 1) := by
  simp only [step_eq, fetchInstr, fetch8_eq, peek_clear, h, afterFetch_one]

theorem step_imm8 (s : State) (mk : Byte → Instr) (h : primary (s.peek s.pc) = some (.imm8 mk)) :
    step s = exec (mk (s.peek (s.pc + 1))) (s.afterFetch 2) := by
  simp only [step_eq, fetchInstr, fetch8_eq, peek_clear, h, afterFetch_one, afterFetch_two, setPc_pc, peek_setPc,
    peek_logAccess]

theorem step_imm16 (s : State) (mk : Word → Instr) (h : primary (s.peek s.pc) = some (.imm16 mk)) :
    step s = exec (mk (bytesToWord (s.peek (s.pc + 1 + 1)) (s.peek (s.pc + 1)))) (s.afterFetch 3) := by
  simp only [step_eq, fetchInstr, fetch8_eq, fetch16_eq, peek_clear, h, afterFetch_one, afterFetch_two,
    afterFetch_three, setPc_pc, peek_setPc, peek_logAccess]

theorem step_ext (s : State) (h : primary (s.peek s.pc) = some .ext) :
    step s = match rotShiftRefused s.platform (s.peek (s.pc + 1)) with
      | true => .fault (.unimplementedOpcode ⟨true, s.peek (s.pc + 1), s.pc⟩ (fetchLog s 2))
      | false => exec (extended (s.peek (s.pc + 1))) (s.afterFetch 2) := by
  rw [← afterFetch_accesses]
  simp only [step_eq, fetchInstr, fetch8_eq, peek_clear, h, afterFetch_one, afterFetch_two, setPc_pc, peek_setPc,
    peek_logAccess, raiseUnimplemented, setPc_accesses]
  cases rotShiftRefused s.platform (s.peek (s.pc + 1)) <;> rfl

/-- A step that completes ran an instruction from the state with its bytes fetched. -/
theorem step_next (s t : State) (h : step s = .next t) : ∃ i shape,
    primary (s.peek s.pc) = some shape ∧ exec i (s.afterFetch shape.length) = .next t := by
  cases hp : primary (s.peek s.pc) with
  | none => rw [step_unimplemented s hp] at h; cases h
  | some shape =>
    cases shape with
    | op i => exact ⟨_, _, rfl, step_op s i hp ▸ h⟩
    | imm8 mk => exact ⟨_, _, rfl, step_imm8 s mk hp ▸ h⟩
    | imm16 mk => exact ⟨_, _, rfl, step_imm16 s mk hp ▸ h⟩
    | ext =>
      rw [step_ext s hp] at h
      split at h
      · cases h
      · exact ⟨_, _, rfl, h⟩

end Sys2Proof.Machine
end

