-- ==== Sys2Proof/Laws/Access.lean ====
section
/-! SUPPORT. What a write does to what every byte reads as, and what any instruction can have done when it answers a next
state. -/

namespace Sys2Proof.Machine

theorem regionOf_rom (a : Word) (h : regionOf a = .rom) : a.toNat ≤ 0x7FFF := by
  revert h
  unfold regionOf
  repeat' split
  all_goals first | (intro hc; omega) | (intro hc; cases hc)

/-- An image byte is read at its own address in the ROM region, and only there. -/
theorem slotOf_rom (p : Platform) (a x : Word) (h : slotOf p a = .rom x) : x = a ∧ a.toNat ≤ 0x7FFF := by
  have noStore : ∀ (k : Store) (y : Word), storeSlot k y ≠ .rom x := by
    intro k y
    cases k <;> simp [storeSlot]
  unfold slotOf at h
  split at h
  · unfold mapSlot at h
    split at h
    case h_1 hr => exact ⟨by simpa using h.symm, regionOf_rom a hr⟩
    all_goals first
      | exact absurd h (noStore _ _)
      | cases h
      | (split at h <;> first | cases h | exact absurd h (noStore _ _))
  · cases h

/-- No cell of the platform lies where an image byte does. -/
theorem slotOf_cell_ne_rom (p : Platform) (a q x : Word) (ha : slotOf p a = .cell x) : slotOf p q ≠ .rom x := by
  intro hq
  obtain ⟨hxq, hlow⟩ := slotOf_rom p q x hq
  unfold slotOf at ha hq
  cases hs : p.space with
  | flat => simp only [hs] at hq; cases hq
  | map b =>
    simp only [hs] at ha
    have := mapSlot_cell b a x ha
    subst hxq
    omega

/-- Where the location stores, the write is what the location reads as. -/
theorem peek_memWrite_stores (s : State) (x : Word) (v : Byte) (h : Stores s x) : (s.memWrite x v).peek x = v := by
  obtain ⟨y, hy⟩ := h
  simp [State.peek, storeByte, hy, Memory.byteAt_store_same]

/-- Where the location does not store, the write changes no stored byte. -/
theorem storeByte_discarded (p : Platform) (m : Memory) (x : Word) (v : Byte) (h : ∀ y, slotOf p x ≠ .cell y) :
    storeByte p m x v = m := by
  unfold storeByte
  split
  · next y hy => exact absurd hy (h y)
  · rfl
  · rfl

theorem memWrite_discarded (s : State) (x : Word) (v : Byte) (h : ¬ Stores s x) : SameBytes s (s.memWrite x v) := by
  intro a
  refine peek_congr _ _ a ?_ rfl
  exact storeByte_discarded _ _ _ _ fun y hy => h ⟨y, hy⟩

/-- A write leaves every other location alone. -/
theorem memWrite_others (s : State) (x : Word) (v : Byte) : SameBytesBut x s (s.memWrite x v) := by
  intro a ha
  simp only [State.peek, memWrite_platform, memWrite_mem, storeByte]
  cases hx : slotOf s.platform x with
  | rom => rfl
  | inert => rfl
  | cell y =>
    cases hs : slotOf s.platform a with
    | inert => rfl
    | cell z =>
      refine Memory.byteAt_store_other _ _ _ _ fun hzy => ha ?_
      rw [hs, hx, hzy]
    | rom z =>
      refine Memory.byteAt_store_other _ _ _ _ fun hzy => ?_
      exact slotOf_cell_ne_rom s.platform x a y hx (hzy ▸ hs)

/-- What `memWrite` does to memory, said once. -/
theorem memWrite_storedByte (s : State) (x : Word) (v : Byte) : StoredByte s (s.memWrite x v) x v where
  written := peek_memWrite_stores s x v
  discarded := memWrite_discarded s x v
  others := memWrite_others s x v
  platform := rfl

/-- What any instruction can have done: no parameter changed, one of four counts, and of memory at most one data read and
then at most one write, both at one address, recorded in order. -/
structure Effect (s t : State) : Prop where
  platform : t.platform = s.platform
  cycles : t.cycles ∈ [4, 8, 12, 16]
  memory :
    (t.mem = s.mem ∧
      (t.accesses = s.accesses ∨ ∃ a v, t.accesses = s.accesses ++ [{ kind := .read, addr := a, byte := v }])) ∨
    ∃ x v, t.mem = storeByte s.platform s.mem x v ∧
      (t.accesses = s.accesses ++ [{ kind := .write, addr := x, byte := v }] ∨
        ∃ w, t.accesses = s.accesses ++
          [{ kind := .read, addr := x, byte := w }, { kind := .write, addr := x, byte := v }])

/-- An instruction with no data access. -/
theorem Effect.ofNoAccess {s t : State} (hp : t.platform = s.platform) (hm : t.mem = s.mem)
    (ha : t.accesses = s.accesses) (hc : t.cycles ∈ [4, 8, 12, 16]) : Effect s t :=
  ⟨hp, hc, .inl ⟨hm, .inl ha⟩⟩

theorem Effect.ofRead {s t : State} (a : Word) (v : Byte) (hp : t.platform = s.platform) (hm : t.mem = s.mem)
    (ha : t.accesses = s.accesses ++ [{ kind := .read, addr := a, byte := v }])
    (hc : t.cycles ∈ [4, 8, 12, 16]) : Effect s t :=
  ⟨hp, hc, .inl ⟨hm, .inr ⟨a, v, ha⟩⟩⟩

theorem Effect.ofWrite {s t : State} (x : Word) (v : Byte) (hp : t.platform = s.platform)
    (hm : t.mem = storeByte s.platform s.mem x v)
    (ha : t.accesses = s.accesses ++ [{ kind := .write, addr := x, byte := v }])
    (hc : t.cycles ∈ [4, 8, 12, 16]) : Effect s t :=
  ⟨hp, hc, .inr ⟨x, v, hm, .inl ha⟩⟩

theorem Effect.ofReadWrite {s t : State} (x : Word) (w v : Byte) (hp : t.platform = s.platform)
    (hm : t.mem = storeByte s.platform s.mem x v)
    (ha : t.accesses = s.accesses ++ [{ kind := .read, addr := x, byte := w }, { kind := .write, addr := x, byte := v }])
    (hc : t.cycles ∈ [4, 8, 12, 16]) : Effect s t :=
  ⟨hp, hc, .inr ⟨x, v, hm, .inr ⟨w, ha⟩⟩⟩

theorem rotShift_effect (f : RotShift) (z : Operand) (s t : State) (h : rotShift f z s = .next t) : Effect s t := by
  cases z with
  | reg r => cases h; exact .ofNoAccess (by simp) (by simp) (by simp) (by simp)
  | mem => cases h; exact .ofReadWrite (s.get16 .hl) (s.peek (s.get16 .hl)) _ rfl rfl (by simp) (by simp)

theorem bitTest_effect (n : Fin 8) (z : Operand) (s t : State) (h : bitTest n z s = .next t) : Effect s t := by
  cases z with
  | reg r => cases h; exact .ofNoAccess (by simp) (by simp) (by simp) (by simp)
  | mem => cases h; exact .ofRead (s.get16 .hl) (s.peek (s.get16 .hl)) rfl rfl rfl (by simp)

theorem modifyOperand_effect (f : Byte → Byte) (z : Operand) (s t : State) (h : modifyOperand f z s = .next t) :
    Effect s t := by
  cases z with
  | reg r => cases h; exact .ofNoAccess (by simp) (by simp) (by simp) (by simp)
  | mem => cases h; exact .ofReadWrite (s.get16 .hl) (s.peek (s.get16 .hl)) _ rfl rfl (by simp) (by simp)

theorem extendedOp_effect (op : ExtOp) (z : Operand) (s t : State) (h : extendedOp op z s = .next t) :
    Effect s t := by
  cases op with
  | bit n => exact bitTest_effect n z s t h
  | res n => exact modifyOperand_effect _ z s t h
  | set n => exact modifyOperand_effect _ z s t h
  | rlc => exact rotShift_effect Machine.rlc z s t h
  | rrc => exact rotShift_effect Machine.rrc z s t h
  | rl => exact rotShift_effect Machine.rl z s t h
  | rr => exact rotShift_effect Machine.rr z s t h
  | sla => exact rotShift_effect Machine.sla z s t h
  | sra => exact rotShift_effect Machine.sra z s t h
  | swap => exact rotShift_effect swapNibbles z s t h
  | srl => exact rotShift_effect Machine.srl z s t h

/-- What any instruction has done when it answers a next state. -/
theorem exec_effect (i : Instr) (s t : State) (h : exec i s = .next t) : Effect s t := by
  revert h
  induction i using Instr.byFamily with
  | nop | xorA => intro h; cases h; exact .ofNoAccess rfl rfl rfl (by simp)
  | jp a16 => intro h; cases h; exact .ofNoAccess rfl rfl rfl (by simp)
  | cp d8 => intro h; cases h; exact .ofNoAccess rfl rfl rfl (by simp)
  | jpcc cc a16 =>
    intro h
    rw [exec_jpOf, jumpCond] at h
    split at h <;> cases h <;> exact .ofNoAccess rfl rfl rfl (by simp)
  | jrcc cc r8 =>
    intro h
    rw [exec_jrOf, jumpRelCond] at h
    split at h <;> cases h <;> exact .ofNoAccess rfl rfl rfl (by simp)
  | ldPair p v =>
    intro h
    rw [exec_ldPairOf] at h
    cases h
    cases p <;> exact .ofNoAccess rfl rfl rfl (by simp)
  | ldReg r v =>
    intro h
    rw [exec_ldRegOf] at h
    cases h
    exact .ofNoAccess (by simp) (by simp) (by simp) (by simp)
  | dec r =>
    intro h
    rw [exec_decOf] at h
    cases h
    exact .ofNoAccess (by simp) (by simp) (by simp) (by simp)
  | stBC | stDE | stHL | stHLInc | stHLDec | stIoC =>
    intro h
    cases h
    exact .ofWrite _ _ rfl rfl rfl (by simp)
  | ldhStore a8 => intro h; cases h; exact .ofWrite _ _ rfl rfl rfl (by simp)
  | ldhLoad a8 => intro h; cases h; exact .ofRead _ _ rfl rfl rfl (by simp)
  | ldIoC => intro h; cases h; exact .ofRead _ _ rfl rfl rfl (by simp)
  | prefixCB e => exact extendedOp_effect _ _ s t
  | ext op z => rw [exec_extOf]; exact extendedOp_effect op z s t

end Sys2Proof.Machine
end

