-- ==== Sys2Proof/Laws/PerInstr.lean ====
section
/-! SUPPORT. For every instruction: its length is the one its first byte tells ("a function of byte 0 alone",
spec/30_encoding.md R81). One lemma per constructor of Instr. -/

namespace Sys2Proof.Laws.LengthByFirstByte

/-- The primary table gives byte 0 of the encoding the length of the encoding. -/
def Statement (i : Instr) : Prop := ((encode i).head?.bind primary).map Shape.length = some (encode i).length

theorem nop : Statement (.nop) := rfl
theorem ldBC (d16 : Word) : Statement (.ldBC d16) := rfl
theorem stBC : Statement (.stBC) := rfl
theorem decB : Statement (.decB) := rfl
theorem ldB (d8 : Byte) : Statement (.ldB d8) := rfl
theorem decC : Statement (.decC) := rfl
theorem ldC (d8 : Byte) : Statement (.ldC d8) := rfl
theorem ldDE (d16 : Word) : Statement (.ldDE d16) := rfl
theorem stDE : Statement (.stDE) := rfl
theorem decD : Statement (.decD) := rfl
theorem ldD (d8 : Byte) : Statement (.ldD d8) := rfl
theorem decE : Statement (.decE) := rfl
theorem ldE (d8 : Byte) : Statement (.ldE d8) := rfl
theorem jrNZ (r8 : Byte) : Statement (.jrNZ r8) := rfl
theorem ldHL (d16 : Word) : Statement (.ldHL d16) := rfl
theorem stHLInc : Statement (.stHLInc) := rfl
theorem decH : Statement (.decH) := rfl
theorem ldH (d8 : Byte) : Statement (.ldH d8) := rfl
theorem jrZ (r8 : Byte) : Statement (.jrZ r8) := rfl
theorem decL : Statement (.decL) := rfl
theorem ldL (d8 : Byte) : Statement (.ldL d8) := rfl
theorem jrNC (r8 : Byte) : Statement (.jrNC r8) := rfl
theorem ldSP (d16 : Word) : Statement (.ldSP d16) := rfl
theorem stHLDec : Statement (.stHLDec) := rfl
theorem jrC (r8 : Byte) : Statement (.jrC r8) := rfl
theorem decA : Statement (.decA) := rfl
theorem ldA (d8 : Byte) : Statement (.ldA d8) := rfl
theorem stHL : Statement (.stHL) := rfl
theorem xorA : Statement (.xorA) := rfl
theorem jpNZ (a16 : Word) : Statement (.jpNZ a16) := rfl
theorem jp (a16 : Word) : Statement (.jp a16) := rfl
theorem jpZ (a16 : Word) : Statement (.jpZ a16) := rfl
theorem prefixCB (e : Byte) : Statement (.prefixCB e) := rfl
theorem jpNC (a16 : Word) : Statement (.jpNC a16) := rfl
theorem jpC (a16 : Word) : Statement (.jpC a16) := rfl
theorem ldhStore (a8 : Byte) : Statement (.ldhStore a8) := rfl
theorem stIoC : Statement (.stIoC) := rfl
theorem ldhLoad (a8 : Byte) : Statement (.ldhLoad a8) := rfl
theorem ldIoC : Statement (.ldIoC) := rfl
theorem cp (d8 : Byte) : Statement (.cp d8) := rfl
theorem rlcB : Statement (.rlcB) := rfl
theorem rlcC : Statement (.rlcC) := rfl
theorem rlcD : Statement (.rlcD) := rfl
theorem rlcE : Statement (.rlcE) := rfl
theorem rlcH : Statement (.rlcH) := rfl
theorem rlcL : Statement (.rlcL) := rfl
theorem rlcHL : Statement (.rlcHL) := rfl
theorem rlcA : Statement (.rlcA) := rfl
theorem rrcB : Statement (.rrcB) := rfl
theorem rrcC : Statement (.rrcC) := rfl
theorem rrcD : Statement (.rrcD) := rfl
theorem rrcE : Statement (.rrcE) := rfl
theorem rrcH : Statement (.rrcH) := rfl
theorem rrcL : Statement (.rrcL) := rfl
theorem rrcHL : Statement (.rrcHL) := rfl
theorem rrcA : Statement (.rrcA) := rfl
theorem rlB : Statement (.rlB) := rfl
theorem rlC : Statement (.rlC) := rfl
theorem rlD : Statement (.rlD) := rfl
theorem rlE : Statement (.rlE) := rfl
theorem rlH : Statement (.rlH) := rfl
theorem rlL : Statement (.rlL) := rfl
theorem rlHL : Statement (.rlHL) := rfl
theorem rlA : Statement (.rlA) := rfl
theorem rrB : Statement (.rrB) := rfl
theorem rrC : Statement (.rrC) := rfl
theorem rrD : Statement (.rrD) := rfl
theorem rrE : Statement (.rrE) := rfl
theorem rrH : Statement (.rrH) := rfl
theorem rrL : Statement (.rrL) := rfl
theorem rrHL : Statement (.rrHL) := rfl
theorem rrA : Statement (.rrA) := rfl
theorem slaB : Statement (.slaB) := rfl
theorem slaC : Statement (.slaC) := rfl
theorem slaD : Statement (.slaD) := rfl
theorem slaE : Statement (.slaE) := rfl
theorem slaH : Statement (.slaH) := rfl
theorem slaL : Statement (.slaL) := rfl
theorem slaHL : Statement (.slaHL) := rfl
theorem slaA : Statement (.slaA) := rfl
theorem sraB : Statement (.sraB) := rfl
theorem sraC : Statement (.sraC) := rfl
theorem sraD : Statement (.sraD) := rfl
theorem sraE : Statement (.sraE) := rfl
theorem sraH : Statement (.sraH) := rfl
theorem sraL : Statement (.sraL) := rfl
theorem sraHL : Statement (.sraHL) := rfl
theorem sraA : Statement (.sraA) := rfl
theorem swapB : Statement (.swapB) := rfl
theorem swapC : Statement (.swapC) := rfl
theorem swapD : Statement (.swapD) := rfl
theorem swapE : Statement (.swapE) := rfl
theorem swapH : Statement (.swapH) := rfl
theorem swapL : Statement (.swapL) := rfl
theorem swapHL : Statement (.swapHL) := rfl
theorem swapA : Statement (.swapA) := rfl
theorem srlB : Statement (.srlB) := rfl
theorem srlC : Statement (.srlC) := rfl
theorem srlD : Statement (.srlD) := rfl
theorem srlE : Statement (.srlE) := rfl
theorem srlH : Statement (.srlH) := rfl
theorem srlL : Statement (.srlL) := rfl
theorem srlHL : Statement (.srlHL) := rfl
theorem srlA : Statement (.srlA) := rfl
theorem bit0B : Statement (.bit0B) := rfl
theorem bit0C : Statement (.bit0C) := rfl
theorem bit0D : Statement (.bit0D) := rfl
theorem bit0E : Statement (.bit0E) := rfl
theorem bit0H : Statement (.bit0H) := rfl
theorem bit0L : Statement (.bit0L) := rfl
theorem bit0HL : Statement (.bit0HL) := rfl
theorem bit0A : Statement (.bit0A) := rfl
theorem bit1B : Statement (.bit1B) := rfl
theorem bit1C : Statement (.bit1C) := rfl
theorem bit1D : Statement (.bit1D) := rfl
theorem bit1E : Statement (.bit1E) := rfl
theorem bit1H : Statement (.bit1H) := rfl
theorem bit1L : Statement (.bit1L) := rfl
theorem bit1HL : Statement (.bit1HL) := rfl
theorem bit1A : Statement (.bit1A) := rfl
theorem bit2B : Statement (.bit2B) := rfl
theorem bit2C : Statement (.bit2C) := rfl
theorem bit2D : Statement (.bit2D) := rfl
theorem bit2E : Statement (.bit2E) := rfl
theorem bit2H : Statement (.bit2H) := rfl
theorem bit2L : Statement (.bit2L) := rfl
theorem bit2HL : Statement (.bit2HL) := rfl
theorem bit2A : Statement (.bit2A) := rfl
theorem bit3B : Statement (.bit3B) := rfl
theorem bit3C : Statement (.bit3C) := rfl
theorem bit3D : Statement (.bit3D) := rfl
theorem bit3E : Statement (.bit3E) := rfl
theorem bit3H : Statement (.bit3H) := rfl
theorem bit3L : Statement (.bit3L) := rfl
theorem bit3HL : Statement (.bit3HL) := rfl
theorem bit3A : Statement (.bit3A) := rfl
theorem bit4B : Statement (.bit4B) := rfl
theorem bit4C : Statement (.bit4C) := rfl
theorem bit4D : Statement (.bit4D) := rfl
theorem bit4E : Statement (.bit4E) := rfl
theorem bit4H : Statement (.bit4H) := rfl
theorem bit4L : Statement (.bit4L) := rfl
theorem bit4HL : Statement (.bit4HL) := rfl
theorem bit4A : Statement (.bit4A) := rfl
theorem bit5B : Statement (.bit5B) := rfl
theorem bit5C : Statement (.bit5C) := rfl
theorem bit5D : Statement (.bit5D) := rfl
theorem bit5E : Statement (.bit5E) := rfl
theorem bit5H : Statement (.bit5H) := rfl
theorem bit5L : Statement (.bit5L) := rfl
theorem bit5HL : Statement (.bit5HL) := rfl
theorem bit5A : Statement (.bit5A) := rfl
theorem bit6B : Statement (.bit6B) := rfl
theorem bit6C : Statement (.bit6C) := rfl
theorem bit6D : Statement (.bit6D) := rfl
theorem bit6E : Statement (.bit6E) := rfl
theorem bit6H : Statement (.bit6H) := rfl
theorem bit6L : Statement (.bit6L) := rfl
theorem bit6HL : Statement (.bit6HL) := rfl
theorem bit6A : Statement (.bit6A) := rfl
theorem bit7B : Statement (.bit7B) := rfl
theorem bit7C : Statement (.bit7C) := rfl
theorem bit7D : Statement (.bit7D) := rfl
theorem bit7E : Statement (.bit7E) := rfl
theorem bit7H : Statement (.bit7H) := rfl
theorem bit7L : Statement (.bit7L) := rfl
theorem bit7HL : Statement (.bit7HL) := rfl
theorem bit7A : Statement (.bit7A) := rfl
theorem res0B : Statement (.res0B) := rfl
theorem res0C : Statement (.res0C) := rfl
theorem res0D : Statement (.res0D) := rfl
theorem res0E : Statement (.res0E) := rfl
theorem res0H : Statement (.res0H) := rfl
theorem res0L : Statement (.res0L) := rfl
theorem res0HL : Statement (.res0HL) := rfl
theorem res0A : Statement (.res0A) := rfl
theorem res1B : Statement (.res1B) := rfl
theorem res1C : Statement (.res1C) := rfl
theorem res1D : Statement (.res1D) := rfl
theorem res1E : Statement (.res1E) := rfl
theorem res1H : Statement (.res1H) := rfl
theorem res1L : Statement (.res1L) := rfl
theorem res1HL : Statement (.res1HL) := rfl
theorem res1A : Statement (.res1A) := rfl
theorem res2B : Statement (.res2B) := rfl
theorem res2C : Statement (.res2C) := rfl
theorem res2D : Statement (.res2D) := rfl
theorem res2E : Statement (.res2E) := rfl
theorem res2H : Statement (.res2H) := rfl
theorem res2L : Statement (.res2L) := rfl
theorem res2HL : Statement (.res2HL) := rfl
theorem res2A : Statement (.res2A) := rfl
theorem res3B : Statement (.res3B) := rfl
theorem res3C : Statement (.res3C) := rfl
theorem res3D : Statement (.res3D) := rfl
theorem res3E : Statement (.res3E) := rfl
theorem res3H : Statement (.res3H) := rfl
theorem res3L : Statement (.res3L) := rfl
theorem res3HL : Statement (.res3HL) := rfl
theorem res3A : Statement (.res3A) := rfl
theorem res4B : Statement (.res4B) := rfl
theorem res4C : Statement (.res4C) := rfl
theorem res4D : Statement (.res4D) := rfl
theorem res4E : Statement (.res4E) := rfl
theorem res4H : Statement (.res4H) := rfl
theorem res4L : Statement (.res4L) := rfl
theorem res4HL : Statement (.res4HL) := rfl
theorem res4A : Statement (.res4A) := rfl
theorem res5B : Statement (.res5B) := rfl
theorem res5C : Statement (.res5C) := rfl
theorem res5D : Statement (.res5D) := rfl
theorem res5E : Statement (.res5E) := rfl
theorem res5H : Statement (.res5H) := rfl
theorem res5L : Statement (.res5L) := rfl
theorem res5HL : Statement (.res5HL) := rfl
theorem res5A : Statement (.res5A) := rfl
theorem res6B : Statement (.res6B) := rfl
theorem res6C : Statement (.res6C) := rfl
theorem res6D : Statement (.res6D) := rfl
theorem res6E : Statement (.res6E) := rfl
theorem res6H : Statement (.res6H) := rfl
theorem res6L : Statement (.res6L) := rfl
theorem res6HL : Statement (.res6HL) := rfl
theorem res6A : Statement (.res6A) := rfl
theorem res7B : Statement (.res7B) := rfl
theorem res7C : Statement (.res7C) := rfl
theorem res7D : Statement (.res7D) := rfl
theorem res7E : Statement (.res7E) := rfl
theorem res7H : Statement (.res7H) := rfl
theorem res7L : Statement (.res7L) := rfl
theorem res7HL : Statement (.res7HL) := rfl
theorem res7A : Statement (.res7A) := rfl
theorem set0B : Statement (.set0B) := rfl
theorem set0C : Statement (.set0C) := rfl
theorem set0D : Statement (.set0D) := rfl
theorem set0E : Statement (.set0E) := rfl
theorem set0H : Statement (.set0H) := rfl
theorem set0L : Statement (.set0L) := rfl
theorem set0HL : Statement (.set0HL) := rfl
theorem set0A : Statement (.set0A) := rfl
theorem set1B : Statement (.set1B) := rfl
theorem set1C : Statement (.set1C) := rfl
theorem set1D : Statement (.set1D) := rfl
theorem set1E : Statement (.set1E) := rfl
theorem set1H : Statement (.set1H) := rfl
theorem set1L : Statement (.set1L) := rfl
theorem set1HL : Statement (.set1HL) := rfl
theorem set1A : Statement (.set1A) := rfl
theorem set2B : Statement (.set2B) := rfl
theorem set2C : Statement (.set2C) := rfl
theorem set2D : Statement (.set2D) := rfl
theorem set2E : Statement (.set2E) := rfl
theorem set2H : Statement (.set2H) := rfl
theorem set2L : Statement (.set2L) := rfl
theorem set2HL : Statement (.set2HL) := rfl
theorem set2A : Statement (.set2A) := rfl
theorem set3B : Statement (.set3B) := rfl
theorem set3C : Statement (.set3C) := rfl
theorem set3D : Statement (.set3D) := rfl
theorem set3E : Statement (.set3E) := rfl
theorem set3H : Statement (.set3H) := rfl
theorem set3L : Statement (.set3L) := rfl
theorem set3HL : Statement (.set3HL) := rfl
theorem set3A : Statement (.set3A) := rfl
theorem set4B : Statement (.set4B) := rfl
theorem set4C : Statement (.set4C) := rfl
theorem set4D : Statement (.set4D) := rfl
theorem set4E : Statement (.set4E) := rfl
theorem set4H : Statement (.set4H) := rfl
theorem set4L : Statement (.set4L) := rfl
theorem set4HL : Statement (.set4HL) := rfl
theorem set4A : Statement (.set4A) := rfl
theorem set5B : Statement (.set5B) := rfl
theorem set5C : Statement (.set5C) := rfl
theorem set5D : Statement (.set5D) := rfl
theorem set5E : Statement (.set5E) := rfl
theorem set5H : Statement (.set5H) := rfl
theorem set5L : Statement (.set5L) := rfl
theorem set5HL : Statement (.set5HL) := rfl
theorem set5A : Statement (.set5A) := rfl
theorem set6B : Statement (.set6B) := rfl
theorem set6C : Statement (.set6C) := rfl
theorem set6D : Statement (.set6D) := rfl
theorem set6E : Statement (.set6E) := rfl
theorem set6H : Statement (.set6H) := rfl
theorem set6L : Statement (.set6L) := rfl
theorem set6HL : Statement (.set6HL) := rfl
theorem set6A : Statement (.set6A) := rfl
theorem set7B : Statement (.set7B) := rfl
theorem set7C : Statement (.set7C) := rfl
theorem set7D : Statement (.set7D) := rfl
theorem set7E : Statement (.set7E) := rfl
theorem set7H : Statement (.set7H) := rfl
theorem set7L : Statement (.set7L) := rfl
theorem set7HL : Statement (.set7HL) := rfl
theorem set7A : Statement (.set7A) := rfl

end Sys2Proof.Laws.LengthByFirstByte
end

