-- ==== Sys2Proof/Tests/Slice0.lean ====
section
/-! SUPPORT. Tests. Every expected value is the spec's: the encodings of spec/opcode_table.json, the vectors V<n> and
examples E<n> of spec/95_test_vectors.md. The witnesses at the end meet the hypotheses of the statements. -/

open Sys2Proof Sys2Proof.Machine

namespace Sys2Proof.Tests

/-! ### Well-formedness -/

theorem test_wellFormed_refuses_the_prefix_row :
    Instr.wellFormed (.prefixCB 0x00) = false ∧ Instr.wellFormed (.prefixCB 0xFF) = false ∧
    Instr.wellFormed (.ldSP 0xFFFF) = true ∧ Instr.wellFormed .rlcB = true := by decide

/-! ### Decoding: the table's words, written out bit by bit -/

/-- The bytes are one instruction, and it is `i`, and `i` is encoded by them. -/
def decodesTo (bytes : List Byte) (i : Instr) : Bool :=
  match decode bytes with
  | .ok (j, []) => decide (j = i) && decide (encode i = bytes)
  | _ => false

theorem test_decode_primary_0 :
    ([([0b00000000], .nop), ([0b00000001, 0x34, 0x12], .ldBC 0x1234), ([0b00000010], .stBC),
      ([0b00000101], .decB), ([0b00000110, 0xA5], .ldB 0xA5), ([0b00001101], .decC),
      ([0b00001110, 0xA5], .ldC 0xA5), ([0b00010001, 0x34, 0x12], .ldDE 0x1234), ([0b00010010], .stDE),
      ([0b00010101], .decD)] :
      List (List Byte × Instr)).all (fun x => decodesTo x.1 x.2) = true := by
  decide

theorem test_decode_primary_1 :
    ([([0b00010110, 0xA5], .ldD 0xA5), ([0b00011101], .decE), ([0b00011110, 0xA5], .ldE 0xA5),
      ([0b00100000, 0xA5], .jrNZ 0xA5), ([0b00100001, 0x34, 0x12], .ldHL 0x1234), ([0b00100010], .stHLInc),
      ([0b00100101], .decH), ([0b00100110, 0xA5], .ldH 0xA5), ([0b00101000, 0xA5], .jrZ 0xA5),
      ([0b00101101], .decL)] :
      List (List Byte × Instr)).all (fun x => decodesTo x.1 x.2) = true := by
  decide

theorem test_decode_primary_2 :
    ([([0b00101110, 0xA5], .ldL 0xA5), ([0b00110000, 0xA5], .jrNC 0xA5),
      ([0b00110001, 0x34, 0x12], .ldSP 0x1234), ([0b00110010], .stHLDec), ([0b00111000, 0xA5], .jrC 0xA5),
      ([0b00111101], .decA), ([0b00111110, 0xA5], .ldA 0xA5), ([0b01110111], .stHL), ([0b10101111], .xorA),
      ([0b11000010, 0x34, 0x12], .jpNZ 0x1234)] :
      List (List Byte × Instr)).all (fun x => decodesTo x.1 x.2) = true := by
  decide

theorem test_decode_primary_3 :
    ([([0b11000011, 0x34, 0x12], .jp 0x1234), ([0b11001010, 0x34, 0x12], .jpZ 0x1234),
      ([0b11010010, 0x34, 0x12], .jpNC 0x1234), ([0b11011010, 0x34, 0x12], .jpC 0x1234),
      ([0b11100000, 0xA5], .ldhStore 0xA5), ([0b11100010], .stIoC), ([0b11110000, 0xA5], .ldhLoad 0xA5),
      ([0b11110010], .ldIoC), ([0b11111110, 0xA5], .cp 0xA5)] :
      List (List Byte × Instr)).all (fun x => decodesTo x.1 x.2) = true := by
  decide

theorem test_decode_rlc :
    ([([0b11001011, 0b00000000], .rlcB), ([0b11001011, 0b00000001], .rlcC), ([0b11001011, 0b00000010], .rlcD),
      ([0b11001011, 0b00000011], .rlcE), ([0b11001011, 0b00000100], .rlcH), ([0b11001011, 0b00000101], .rlcL),
      ([0b11001011, 0b00000110], .rlcHL), ([0b11001011, 0b00000111], .rlcA)] :
      List (List Byte × Instr)).all (fun x => decodesTo x.1 x.2) = true := by
  decide

theorem test_decode_rrc :
    ([([0b11001011, 0b00001000], .rrcB), ([0b11001011, 0b00001001], .rrcC), ([0b11001011, 0b00001010], .rrcD),
      ([0b11001011, 0b00001011], .rrcE), ([0b11001011, 0b00001100], .rrcH), ([0b11001011, 0b00001101], .rrcL),
      ([0b11001011, 0b00001110], .rrcHL), ([0b11001011, 0b00001111], .rrcA)] :
      List (List Byte × Instr)).all (fun x => decodesTo x.1 x.2) = true := by
  decide

theorem test_decode_rl :
    ([([0b11001011, 0b00010000], .rlB), ([0b11001011, 0b00010001], .rlC), ([0b11001011, 0b00010010], .rlD),
      ([0b11001011, 0b00010011], .rlE), ([0b11001011, 0b00010100], .rlH), ([0b11001011, 0b00010101], .rlL),
      ([0b11001011, 0b00010110], .rlHL), ([0b11001011, 0b00010111], .rlA)] :
      List (List Byte × Instr)).all (fun x => decodesTo x.1 x.2) = true := by
  decide

theorem test_decode_rr :
    ([([0b11001011, 0b00011000], .rrB), ([0b11001011, 0b00011001], .rrC), ([0b11001011, 0b00011010], .rrD),
      ([0b11001011, 0b00011011], .rrE), ([0b11001011, 0b00011100], .rrH), ([0b11001011, 0b00011101], .rrL),
      ([0b11001011, 0b00011110], .rrHL), ([0b11001011, 0b00011111], .rrA)] :
      List (List Byte × Instr)).all (fun x => decodesTo x.1 x.2) = true := by
  decide

theorem test_decode_sla :
    ([([0b11001011, 0b00100000], .slaB), ([0b11001011, 0b00100001], .slaC), ([0b11001011, 0b00100010], .slaD),
      ([0b11001011, 0b00100011], .slaE), ([0b11001011, 0b00100100], .slaH), ([0b11001011, 0b00100101], .slaL),
      ([0b11001011, 0b00100110], .slaHL), ([0b11001011, 0b00100111], .slaA)] :
      List (List Byte × Instr)).all (fun x => decodesTo x.1 x.2) = true := by
  decide

theorem test_decode_sra :
    ([([0b11001011, 0b00101000], .sraB), ([0b11001011, 0b00101001], .sraC), ([0b11001011, 0b00101010], .sraD),
      ([0b11001011, 0b00101011], .sraE), ([0b11001011, 0b00101100], .sraH), ([0b11001011, 0b00101101], .sraL),
      ([0b11001011, 0b00101110], .sraHL), ([0b11001011, 0b00101111], .sraA)] :
      List (List Byte × Instr)).all (fun x => decodesTo x.1 x.2) = true := by
  decide

theorem test_decode_swap :
    ([([0b11001011, 0b00110000], .swapB), ([0b11001011, 0b00110001], .swapC),
      ([0b11001011, 0b00110010], .swapD), ([0b11001011, 0b00110011], .swapE),
      ([0b11001011, 0b00110100], .swapH), ([0b11001011, 0b00110101], .swapL),
      ([0b11001011, 0b00110110], .swapHL), ([0b11001011, 0b00110111], .swapA)] :
      List (List Byte × Instr)).all (fun x => decodesTo x.1 x.2) = true := by
  decide

theorem test_decode_srl :
    ([([0b11001011, 0b00111000], .srlB), ([0b11001011, 0b00111001], .srlC), ([0b11001011, 0b00111010], .srlD),
      ([0b11001011, 0b00111011], .srlE), ([0b11001011, 0b00111100], .srlH), ([0b11001011, 0b00111101], .srlL),
      ([0b11001011, 0b00111110], .srlHL), ([0b11001011, 0b00111111], .srlA)] :
      List (List Byte × Instr)).all (fun x => decodesTo x.1 x.2) = true := by
  decide

theorem test_decode_bit0 :
    ([([0b11001011, 0b01000000], .bit0B), ([0b11001011, 0b01000001], .bit0C),
      ([0b11001011, 0b01000010], .bit0D), ([0b11001011, 0b01000011], .bit0E),
      ([0b11001011, 0b01000100], .bit0H), ([0b11001011, 0b01000101], .bit0L),
      ([0b11001011, 0b01000110], .bit0HL), ([0b11001011, 0b01000111], .bit0A)] :
      List (List Byte × Instr)).all (fun x => decodesTo x.1 x.2) = true := by
  decide

theorem test_decode_bit1 :
    ([([0b11001011, 0b01001000], .bit1B), ([0b11001011, 0b01001001], .bit1C),
      ([0b11001011, 0b01001010], .bit1D), ([0b11001011, 0b01001011], .bit1E),
      ([0b11001011, 0b01001100], .bit1H), ([0b11001011, 0b01001101], .bit1L),
      ([0b11001011, 0b01001110], .bit1HL), ([0b11001011, 0b01001111], .bit1A)] :
      List (List Byte × Instr)).all (fun x => decodesTo x.1 x.2) = true := by
  decide

theorem test_decode_bit2 :
    ([([0b11001011, 0b01010000], .bit2B), ([0b11001011, 0b01010001], .bit2C),
      ([0b11001011, 0b01010010], .bit2D), ([0b11001011, 0b01010011], .bit2E),
      ([0b11001011, 0b01010100], .bit2H), ([0b11001011, 0b01010101], .bit2L),
      ([0b11001011, 0b01010110], .bit2HL), ([0b11001011, 0b01010111], .bit2A)] :
      List (List Byte × Instr)).all (fun x => decodesTo x.1 x.2) = true := by
  decide

theorem test_decode_bit3 :
    ([([0b11001011, 0b01011000], .bit3B), ([0b11001011, 0b01011001], .bit3C),
      ([0b11001011, 0b01011010], .bit3D), ([0b11001011, 0b01011011], .bit3E),
      ([0b11001011, 0b01011100], .bit3H), ([0b11001011, 0b01011101], .bit3L),
      ([0b11001011, 0b01011110], .bit3HL), ([0b11001011, 0b01011111], .bit3A)] :
      List (List Byte × Instr)).all (fun x => decodesTo x.1 x.2) = true := by
  decide

theorem test_decode_bit4 :
    ([([0b11001011, 0b01100000], .bit4B), ([0b11001011, 0b01100001], .bit4C),
      ([0b11001011, 0b01100010], .bit4D), ([0b11001011, 0b01100011], .bit4E),
      ([0b11001011, 0b01100100], .bit4H), ([0b11001011, 0b01100101], .bit4L),
      ([0b11001011, 0b01100110], .bit4HL), ([0b11001011, 0b01100111], .bit4A)] :
      List (List Byte × Instr)).all (fun x => decodesTo x.1 x.2) = true := by
  decide

theorem test_decode_bit5 :
    ([([0b11001011, 0b01101000], .bit5B), ([0b11001011, 0b01101001], .bit5C),
      ([0b11001011, 0b01101010], .bit5D), ([0b11001011, 0b01101011], .bit5E),
      ([0b11001011, 0b01101100], .bit5H), ([0b11001011, 0b01101101], .bit5L),
      ([0b11001011, 0b01101110], .bit5HL), ([0b11001011, 0b01101111], .bit5A)] :
      List (List Byte × Instr)).all (fun x => decodesTo x.1 x.2) = true := by
  decide

theorem test_decode_bit6 :
    ([([0b11001011, 0b01110000], .bit6B), ([0b11001011, 0b01110001], .bit6C),
      ([0b11001011, 0b01110010], .bit6D), ([0b11001011, 0b01110011], .bit6E),
      ([0b11001011, 0b01110100], .bit6H), ([0b11001011, 0b01110101], .bit6L),
      ([0b11001011, 0b01110110], .bit6HL), ([0b11001011, 0b01110111], .bit6A)] :
      List (List Byte × Instr)).all (fun x => decodesTo x.1 x.2) = true := by
  decide

theorem test_decode_bit7 :
    ([([0b11001011, 0b01111000], .bit7B), ([0b11001011, 0b01111001], .bit7C),
      ([0b11001011, 0b01111010], .bit7D), ([0b11001011, 0b01111011], .bit7E),
      ([0b11001011, 0b01111100], .bit7H), ([0b11001011, 0b01111101], .bit7L),
      ([0b11001011, 0b01111110], .bit7HL), ([0b11001011, 0b01111111], .bit7A)] :
      List (List Byte × Instr)).all (fun x => decodesTo x.1 x.2) = true := by
  decide

theorem test_decode_res0 :
    ([([0b11001011, 0b10000000], .res0B), ([0b11001011, 0b10000001], .res0C),
      ([0b11001011, 0b10000010], .res0D), ([0b11001011, 0b10000011], .res0E),
      ([0b11001011, 0b10000100], .res0H), ([0b11001011, 0b10000101], .res0L),
      ([0b11001011, 0b10000110], .res0HL), ([0b11001011, 0b10000111], .res0A)] :
      List (List Byte × Instr)).all (fun x => decodesTo x.1 x.2) = true := by
  decide

theorem test_decode_res1 :
    ([([0b11001011, 0b10001000], .res1B), ([0b11001011, 0b10001001], .res1C),
      ([0b11001011, 0b10001010], .res1D), ([0b11001011, 0b10001011], .res1E),
      ([0b11001011, 0b10001100], .res1H), ([0b11001011, 0b10001101], .res1L),
      ([0b11001011, 0b10001110], .res1HL), ([0b11001011, 0b10001111], .res1A)] :
      List (List Byte × Instr)).all (fun x => decodesTo x.1 x.2) = true := by
  decide

theorem test_decode_res2 :
    ([([0b11001011, 0b10010000], .res2B), ([0b11001011, 0b10010001], .res2C),
      ([0b11001011, 0b10010010], .res2D), ([0b11001011, 0b10010011], .res2E),
      ([0b11001011, 0b10010100], .res2H), ([0b11001011, 0b10010101], .res2L),
      ([0b11001011, 0b10010110], .res2HL), ([0b11001011, 0b10010111], .res2A)] :
      List (List Byte × Instr)).all (fun x => decodesTo x.1 x.2) = true := by
  decide

theorem test_decode_res3 :
    ([([0b11001011, 0b10011000], .res3B), ([0b11001011, 0b10011001], .res3C),
      ([0b11001011, 0b10011010], .res3D), ([0b11001011, 0b10011011], .res3E),
      ([0b11001011, 0b10011100], .res3H), ([0b11001011, 0b10011101], .res3L),
      ([0b11001011, 0b10011110], .res3HL), ([0b11001011, 0b10011111], .res3A)] :
      List (List Byte × Instr)).all (fun x => decodesTo x.1 x.2) = true := by
  decide

theorem test_decode_res4 :
    ([([0b11001011, 0b10100000], .res4B), ([0b11001011, 0b10100001], .res4C),
      ([0b11001011, 0b10100010], .res4D), ([0b11001011, 0b10100011], .res4E),
      ([0b11001011, 0b10100100], .res4H), ([0b11001011, 0b10100101], .res4L),
      ([0b11001011, 0b10100110], .res4HL), ([0b11001011, 0b10100111], .res4A)] :
      List (List Byte × Instr)).all (fun x => decodesTo x.1 x.2) = true := by
  decide

theorem test_decode_res5 :
    ([([0b11001011, 0b10101000], .res5B), ([0b11001011, 0b10101001], .res5C),
      ([0b11001011, 0b10101010], .res5D), ([0b11001011, 0b10101011], .res5E),
      ([0b11001011, 0b10101100], .res5H), ([0b11001011, 0b10101101], .res5L),
      ([0b11001011, 0b10101110], .res5HL), ([0b11001011, 0b10101111], .res5A)] :
      List (List Byte × Instr)).all (fun x => decodesTo x.1 x.2) = true := by
  decide

theorem test_decode_res6 :
    ([([0b11001011, 0b10110000], .res6B), ([0b11001011, 0b10110001], .res6C),
      ([0b11001011, 0b10110010], .res6D), ([0b11001011, 0b10110011], .res6E),
      ([0b11001011, 0b10110100], .res6H), ([0b11001011, 0b10110101], .res6L),
      ([0b11001011, 0b10110110], .res6HL), ([0b11001011, 0b10110111], .res6A)] :
      List (List Byte × Instr)).all (fun x => decodesTo x.1 x.2) = true := by
  decide

theorem test_decode_res7 :
    ([([0b11001011, 0b10111000], .res7B), ([0b11001011, 0b10111001], .res7C),
      ([0b11001011, 0b10111010], .res7D), ([0b11001011, 0b10111011], .res7E),
      ([0b11001011, 0b10111100], .res7H), ([0b11001011, 0b10111101], .res7L),
      ([0b11001011, 0b10111110], .res7HL), ([0b11001011, 0b10111111], .res7A)] :
      List (List Byte × Instr)).all (fun x => decodesTo x.1 x.2) = true := by
  decide

theorem test_decode_set0 :
    ([([0b11001011, 0b11000000], .set0B), ([0b11001011, 0b11000001], .set0C),
      ([0b11001011, 0b11000010], .set0D), ([0b11001011, 0b11000011], .set0E),
      ([0b11001011, 0b11000100], .set0H), ([0b11001011, 0b11000101], .set0L),
      ([0b11001011, 0b11000110], .set0HL), ([0b11001011, 0b11000111], .set0A)] :
      List (List Byte × Instr)).all (fun x => decodesTo x.1 x.2) = true := by
  decide

theorem test_decode_set1 :
    ([([0b11001011, 0b11001000], .set1B), ([0b11001011, 0b11001001], .set1C),
      ([0b11001011, 0b11001010], .set1D), ([0b11001011, 0b11001011], .set1E),
      ([0b11001011, 0b11001100], .set1H), ([0b11001011, 0b11001101], .set1L),
      ([0b11001011, 0b11001110], .set1HL), ([0b11001011, 0b11001111], .set1A)] :
      List (List Byte × Instr)).all (fun x => decodesTo x.1 x.2) = true := by
  decide

theorem test_decode_set2 :
    ([([0b11001011, 0b11010000], .set2B), ([0b11001011, 0b11010001], .set2C),
      ([0b11001011, 0b11010010], .set2D), ([0b11001011, 0b11010011], .set2E),
      ([0b11001011, 0b11010100], .set2H), ([0b11001011, 0b11010101], .set2L),
      ([0b11001011, 0b11010110], .set2HL), ([0b11001011, 0b11010111], .set2A)] :
      List (List Byte × Instr)).all (fun x => decodesTo x.1 x.2) = true := by
  decide

theorem test_decode_set3 :
    ([([0b11001011, 0b11011000], .set3B), ([0b11001011, 0b11011001], .set3C),
      ([0b11001011, 0b11011010], .set3D), ([0b11001011, 0b11011011], .set3E),
      ([0b11001011, 0b11011100], .set3H), ([0b11001011, 0b11011101], .set3L),
      ([0b11001011, 0b11011110], .set3HL), ([0b11001011, 0b11011111], .set3A)] :
      List (List Byte × Instr)).all (fun x => decodesTo x.1 x.2) = true := by
  decide

theorem test_decode_set4 :
    ([([0b11001011, 0b11100000], .set4B), ([0b11001011, 0b11100001], .set4C),
      ([0b11001011, 0b11100010], .set4D), ([0b11001011, 0b11100011], .set4E),
      ([0b11001011, 0b11100100], .set4H), ([0b11001011, 0b11100101], .set4L),
      ([0b11001011, 0b11100110], .set4HL), ([0b11001011, 0b11100111], .set4A)] :
      List (List Byte × Instr)).all (fun x => decodesTo x.1 x.2) = true := by
  decide

theorem test_decode_set5 :
    ([([0b11001011, 0b11101000], .set5B), ([0b11001011, 0b11101001], .set5C),
      ([0b11001011, 0b11101010], .set5D), ([0b11001011, 0b11101011], .set5E),
      ([0b11001011, 0b11101100], .set5H), ([0b11001011, 0b11101101], .set5L),
      ([0b11001011, 0b11101110], .set5HL), ([0b11001011, 0b11101111], .set5A)] :
      List (List Byte × Instr)).all (fun x => decodesTo x.1 x.2) = true := by
  decide

theorem test_decode_set6 :
    ([([0b11001011, 0b11110000], .set6B), ([0b11001011, 0b11110001], .set6C),
      ([0b11001011, 0b11110010], .set6D), ([0b11001011, 0b11110011], .set6E),
      ([0b11001011, 0b11110100], .set6H), ([0b11001011, 0b11110101], .set6L),
      ([0b11001011, 0b11110110], .set6HL), ([0b11001011, 0b11110111], .set6A)] :
      List (List Byte × Instr)).all (fun x => decodesTo x.1 x.2) = true := by
  decide

theorem test_decode_set7 :
    ([([0b11001011, 0b11111000], .set7B), ([0b11001011, 0b11111001], .set7C),
      ([0b11001011, 0b11111010], .set7D), ([0b11001011, 0b11111011], .set7E),
      ([0b11001011, 0b11111100], .set7H), ([0b11001011, 0b11111101], .set7L),
      ([0b11001011, 0b11111110], .set7HL), ([0b11001011, 0b11111111], .set7A)] :
      List (List Byte × Instr)).all (fun x => decodesTo x.1 x.2) = true := by
  decide

theorem test_decode_prefix_word_is_the_extended_instruction : decodesTo [0b11001011, 0x40] .bit0B = true := by decide

theorem test_decode_refuses_by_name :
    [0xD3, 0x76, 0x18, 0x36, 0xFF, 0x10].all (fun op : Byte =>
      match decode [op] with
      | .error (.unimplemented q) => decide (q = op)
      | _ => false) = true := by
  decide

/-- A cut instruction is refused, not padded. -/
theorem test_decode_refuses_a_cut_instruction :
    [[], [0xC3], [0xC3, 0x50], [0x06], [0xCB]].all (fun bytes : List Byte =>
      match decode bytes with
      | .error .truncated => true
      | _ => false) = true := by
  decide

/-- The table numbers byte 0 most significant (spec/30_encoding.md R99): `LD_BC_d16` is 0x010000, `RLC_B` 0xCB00. -/
theorem test_table_words :
    decodeTableWord 8 0x00 = some .nop ∧ decodeTableWord 24 0xC35001 = some (.jp 0x0150) ∧
    decodeTableWord 16 0xCB00 = some .rlcB ∧ decodeTableWord 16 0xCB7E = some .bit7HL ∧
    decodeTableWord 8 0xC3 = some (.jp 0x0000) ∧ decodeTableWord 8 0xD3 = none := by
  decide

/-! ### One step -/

/-- FlatRAM with bytes from an address on, PC there, everything else as at reset. -/
def at_ (pc : Word) (bytes : List Byte) : State :=
  { State.reset with pc := pc, platform := { State.reset.platform with space := .flat },
                     mem := imageCells pc.toNat bytes }

/-- The same with one more byte of memory, above the program. -/
def withByte (s : State) (a : Word) (v : Byte) : State := { s with mem := s.mem ++ [(a.toNat, v)] }

/-- F as the vectors write it. -/
def withF (s : State) (f : Byte) : State := { s with flags := unpackFlags f }

/-- The step completes in `n` cycles with PC at `pc`, F as given, and `check` of the state it leaves. -/
def ran (s : State) (n : Nat) (pc : Word) (f : Byte) (check : State → Bool) : Bool :=
  match step s with
  | .next t => decide (t.cycles = n) && decide (t.pc = pc) && decide (packFlags t.flags = f) && check t
  | _ => false

/-- The step faults with the record, after the fetch reads of the given bytes from `pc` on. -/
def faults (s : State) (r : FaultRecord) (bytes : List Byte) : Bool :=
  match step s with
  | .fault (.unimplementedOpcode q reads) =>
    decide (q = r) && decide (reads.map Access.byte = bytes) && reads.all (fun x => decide (x.kind = .fetch))
  | _ => false

/-- The data writes of a step in order. -/
def writes (t : State) : List (Word × Byte) :=
  t.accesses.filterMap fun x => if x.kind = .write then some (x.addr, x.byte) else none

theorem test_V1 :
    ran (at_ 0x0100 [0x00]) 4 0x0101 0xB0 (fun _ => true) = true := by
  decide

theorem test_V2 :
    ran (at_ 0xFFFF [0x00]) 4 0x0000 0xB0 (fun _ => true) = true := by
  decide

theorem test_V3 :
    ran (at_ 0x0100 [0xC3, 0x50, 0x01]) 16 0x0150 0xB0 (fun _ => true) = true := by
  decide

theorem test_V5 :
    ran (withF (at_ 0x0100 [0xC2, 0x00, 0x02]) 0x80) 12 0x0103 0x80 (fun _ => true) = true := by
  decide

theorem test_V6 :
    ran (withF (at_ 0x0100 [0xC2, 0x00, 0x02]) 0x00) 16 0x0200 0x00 (fun _ => true) = true := by
  decide

theorem test_V7 :
    ran (withF (at_ 0x0100 [0xCA, 0x00, 0x02]) 0x80) 16 0x0200 0x80 (fun _ => true) = true := by
  decide

theorem test_V9 :
    ran (withF (at_ 0x0100 [0xD2, 0x00, 0x02]) 0x00) 16 0x0200 0x00 (fun _ => true) = true := by
  decide

theorem test_V10 :
    ran (withF (at_ 0x0100 [0xDA, 0x00, 0x02]) 0x10) 16 0x0200 0x10 (fun _ => true) = true := by
  decide

theorem test_V11 :
    ran (withF (at_ 0x015A [0x20, 0xFC]) 0x40) 12 0x0158 0x40 (fun _ => true) = true := by
  decide

theorem test_V12 :
    ran (withF (at_ 0x015A [0x20, 0xFC]) 0xC0) 8 0x015C 0xC0 (fun _ => true) = true := by
  decide

theorem test_V13 :
    ran (withF (at_ 0x0100 [0x28, 0x00]) 0x80) 12 0x0102 0x80 (fun _ => true) = true := by
  decide

theorem test_V15 :
    ran (withF (at_ 0xFFF0 [0x30, 0x7F]) 0x00) 12 0x0071 0x00 (fun _ => true) = true := by
  decide

theorem test_V16 :
    ran (withF (at_ 0x0000 [0x38, 0x80]) 0x10) 12 0xFF82 0x10 (fun _ => true) = true := by
  decide

theorem test_V18 :
    faults (at_ 0x0100 [0x18, 0x05]) ⟨false, 0x18, 0x0100⟩ [0x18] = true := by
  decide

theorem test_V20 :
    ran (at_ 0x0100 [0x01, 0x34, 0x12]) 12 0x0103 0xB0 (fun t => t.b == 0x12 && t.c == 0x34) = true := by
  decide

theorem test_V21 :
    ran (at_ 0x0100 [0x11, 0xCD, 0xAB]) 12 0x0103 0xB0 (fun t => t.d == 0xAB && t.e == 0xCD) = true := by
  decide

theorem test_V22 :
    ran (at_ 0x0100 [0x21, 0x00, 0xC0]) 12 0x0103 0xB0 (fun t => t.h == 0xC0 && t.l == 0x00) = true := by
  decide

theorem test_V23 :
    ran (at_ 0x0100 [0x31, 0x00, 0xD0]) 12 0x0103 0xB0 (fun t => t.sp == 0xD000) = true := by
  decide

theorem test_V24 :
    ran (at_ 0x0100 [0x06, 0xAA]) 8 0x0102 0xB0 (fun t => t.b == 0xAA) = true := by
  decide

theorem test_V25 :
    ran (at_ 0x0100 [0x0E, 0x10]) 8 0x0102 0xB0 (fun t => t.c == 0x10) = true := by
  decide

theorem test_V26 :
    ran (at_ 0x0100 [0x16, 0x01]) 8 0x0102 0xB0 (fun t => t.d == 0x01) = true := by
  decide

theorem test_V27 :
    ran (at_ 0x0100 [0x1E, 0x02]) 8 0x0102 0xB0 (fun t => t.e == 0x02) = true := by
  decide

theorem test_V28 :
    ran (at_ 0x0100 [0x26, 0xC0]) 8 0x0102 0xB0 (fun t => t.h == 0xC0) = true := by
  decide

theorem test_V29 :
    ran (at_ 0x0100 [0x2E, 0x00]) 8 0x0102 0xB0 (fun t => t.l == 0x00) = true := by
  decide

theorem test_V30 :
    ran (at_ 0x0100 [0x3E, 0x00]) 8 0x0102 0xB0 (fun t => t.a == 0x00) = true := by
  decide

theorem test_V31 :
    faults (at_ 0x0100 [0x36, 0x00]) ⟨false, 0x36, 0x0100⟩ [0x36] = true := by
  decide

theorem test_V40 :
    ran { at_ 0x0100 [0x02] with b := 0xC0, c := 0x10, a := 0x5A } 8 0x0101 0xB0 (fun t => writes t == [(0xC010, 0x5A)]) = true := by
  decide

theorem test_V42 :
    ran { at_ 0x0100 [0x77] with h := 0xC0, l := 0x00, a := 0x08 } 8 0x0101 0xB0 (fun t => t.get16 .hl == 0xC000 && writes t == [(0xC000, 0x08)]) = true := by
  decide

theorem test_V43 :
    ran { at_ 0x0100 [0x22] with h := 0xC0, l := 0x00, a := 0x42 } 8 0x0101 0xB0 (fun t => t.get16 .hl == 0xC001 && writes t == [(0xC000, 0x42)]) = true := by
  decide

theorem test_V44 :
    ran { at_ 0x0100 [0x22] with h := 0xFF, l := 0xFF, a := 0x42 } 8 0x0101 0xB0 (fun t => t.get16 .hl == 0x0000 && writes t == [(0xFFFF, 0x42)]) = true := by
  decide

theorem test_V45 :
    ran { at_ 0x0100 [0x22] with h := 0x00, l := 0xFF, a := 0x42 } 8 0x0101 0xB0 (fun t => t.h == 0x01 && t.l == 0x00 && writes t == [(0x00FF, 0x42)]) = true := by
  decide

theorem test_V46 :
    ran { at_ 0x0100 [0x32] with h := 0xDF, l := 0xFF, a := 0x00 } 8 0x0101 0xB0 (fun t => t.get16 .hl == 0xDFFE && writes t == [(0xDFFF, 0x00)]) = true := by
  decide

theorem test_V47 :
    ran { at_ 0x0100 [0x32] with h := 0x00, l := 0x00, a := 0x77 } 8 0x0101 0xB0 (fun t => t.get16 .hl == 0xFFFF && writes t == [(0x0000, 0x77)]) = true := by
  decide

theorem test_V48 :
    ran { at_ 0x0100 [0x32] with h := 0xDF, l := 0x00, a := 0x77 } 8 0x0101 0xB0 (fun t => t.h == 0xDE && t.l == 0xFF && writes t == [(0xDF00, 0x77)]) = true := by
  decide

theorem test_V49 :
    ran { at_ 0x0100 [0xE0, 0x40] with a := 0x91 } 12 0x0102 0xB0 (fun t => writes t == [(0xFF40, 0x91)]) = true := by
  decide

theorem test_V50 :
    ran { at_ 0x0100 [0xE0, 0xFF] with a := 0x1F } 12 0x0102 0xB0 (fun t => writes t == [(0xFFFF, 0x1F)]) = true := by
  decide

theorem test_V51 :
    ran (withByte (at_ 0x0100 [0xF0, 0x44]) 0xFF44 0x94) 12 0x0102 0xB0 (fun t => t.a == 0x94 && writes t == []) = true := by
  decide

theorem test_V52 :
    ran (at_ 0x0100 [0xE2]) 8 0x0101 0xB0 (fun t => writes t == [(0xFF13, 0x01)]) = true := by
  decide

theorem test_V53 :
    ran (withByte { at_ 0x0100 [0xF2] with c := 0x44 } 0xFF44 0x94) 8 0x0101 0xB0 (fun t => t.a == 0x94 && writes t == []) = true := by
  decide

theorem test_V60 :
    ran { at_ 0x0100 [0xAF] with a := 0x5A } 4 0x0101 0x80 (fun t => t.a == 0x00) = true := by
  decide

theorem test_V61 :
    ran (withF ({ at_ 0x0100 [0xAF] with a := 0x00 }) 0x70) 4 0x0101 0x80 (fun t => t.a == 0x00) = true := by
  decide

theorem test_V62 :
    ran (withF ({ at_ 0x0100 [0x05] with b := 0x01 }) 0x10) 4 0x0101 0xD0 (fun t => t.b == 0x00) = true := by
  decide

theorem test_V63 :
    ran (withF ({ at_ 0x0100 [0x05] with b := 0x00 }) 0x80) 4 0x0101 0x60 (fun t => t.b == 0xFF) = true := by
  decide

theorem test_V64 :
    ran (withF ({ at_ 0x0100 [0x0D] with c := 0x10 }) 0x00) 4 0x0101 0x60 (fun t => t.c == 0x0F) = true := by
  decide

theorem test_V65 :
    ran (withF ({ at_ 0x0100 [0x15] with d := 0x80 }) 0x10) 4 0x0101 0x70 (fun t => t.d == 0x7F) = true := by
  decide

theorem test_V66 :
    ran (at_ 0x0100 [0x1D]) 4 0x0101 0x50 (fun t => t.e == 0xD7) = true := by
  decide

theorem test_V67 :
    ran (at_ 0x0100 [0x25]) 4 0x0101 0xD0 (fun t => t.h == 0x00 && t.get16 .hl == 0x004D) = true := by
  decide

theorem test_V68 :
    ran (at_ 0x0100 [0x2D]) 4 0x0101 0x50 (fun t => t.l == 0x4C) = true := by
  decide

theorem test_V69 :
    ran (at_ 0x0100 [0x3D]) 4 0x0101 0xD0 (fun t => t.a == 0x00) = true := by
  decide

theorem test_V70 :
    ran (withF ({ at_ 0x0100 [0x2D] with h := 0xC0, l := 0x00 }) 0x00) 4 0x0101 0x60 (fun t => t.l == 0xFF && t.h == 0xC0) = true := by
  decide

theorem test_V75 :
    ran (withF ({ at_ 0x0100 [0xFE, 0x01] with a := 0x10 }) 0x00) 8 0x0102 0x60 (fun t => t.a == 0x10) = true := by
  decide

theorem test_V76 :
    ran (withF ({ at_ 0x0100 [0xFE, 0xF0] with a := 0x0F }) 0x00) 8 0x0102 0x50 (fun t => t.a == 0x0F) = true := by
  decide

theorem test_V80 :
    ran (withF ({ at_ 0x0100 [0xCB, 0x7C] with h := 0x9F }) 0x00) 8 0x0102 0x20 (fun t => writes t == []) = true := by
  decide

theorem test_V81 :
    ran (withF ({ at_ 0x0100 [0xCB, 0x7C] with h := 0x7F }) 0x50) 8 0x0102 0xB0 (fun t => writes t == []) = true := by
  decide

theorem test_V82 :
    ran (withF ({ at_ 0x0100 [0xCB, 0x40] with b := 0xFE }) 0x00) 8 0x0102 0xA0 (fun t => writes t == []) = true := by
  decide

theorem test_V83 :
    ran (withF (withByte { at_ 0x0100 [0xCB, 0x5E] with h := 0xC0, l := 0x00 } 0xC000 0xF7) 0x00) 16 0x0102 0xA0 (fun t => writes t == []) = true := by
  decide

theorem test_V84 :
    ran (withF (withByte { at_ 0x0100 [0xCB, 0x5E] with h := 0xC0, l := 0x00 } 0xC000 0x08) 0xF0) 16 0x0102 0x30 (fun t => writes t == []) = true := by
  decide

theorem test_V85 :
    ran (at_ 0x0100 [0xCB, 0x7F]) 8 0x0102 0xB0 (fun t => writes t == []) = true := by
  decide

theorem test_V86 :
    ran { at_ 0x0100 [0xCB, 0xBF] with a := 0xFF } 8 0x0102 0xB0 (fun t => t.a == 0x7F && writes t == []) = true := by
  decide

theorem test_V87 :
    ran { at_ 0x0100 [0xCB, 0x80] with b := 0xFE } 8 0x0102 0xB0 (fun t => t.b == 0xFE && writes t == []) = true := by
  decide

theorem test_V88 :
    ran (withByte { at_ 0x0100 [0xCB, 0x9E] with h := 0xC0, l := 0x00 } 0xC000 0x08) 16 0x0102 0xB0 (fun t => t.peek 0xC000 == 0x00 && writes t == [(0xC000, 0x00)]) = true := by
  decide

theorem test_V89 :
    ran (withByte { at_ 0x0100 [0xCB, 0x86] with h := 0xC0, l := 0x00 } 0xC000 0xFE) 16 0x0102 0xB0 (fun t => t.peek 0xC000 == 0xFE && writes t == [(0xC000, 0xFE)]) = true := by
  decide

theorem test_V90 :
    ran { at_ 0x0100 [0xCB, 0xC7] with a := 0x08 } 8 0x0102 0xB0 (fun t => t.a == 0x09 && writes t == []) = true := by
  decide

theorem test_V91 :
    ran (at_ 0x0100 [0xCB, 0xCB]) 8 0x0102 0xB0 (fun t => t.e == 0xDA && writes t == []) = true := by
  decide

theorem test_V92 :
    ran (withByte { at_ 0x0100 [0xCB, 0xFE] with h := 0xC0, l := 0x00 } 0xC000 0x00) 16 0x0102 0xB0 (fun t => t.peek 0xC000 == 0x80 && writes t == [(0xC000, 0x80)]) = true := by
  decide

theorem test_V93 :
    ran { at_ 0x0100 [0xCB, 0xE4] with h := 0xC0, l := 0x00 } 8 0x0102 0xB0 (fun t => t.h == 0xD0 && t.get16 .hl == 0xD000 && writes t == []) = true := by
  decide

theorem test_V100 :
    ran (withF ({ at_ 0x0100 [0xCB, 0x07] with a := 0x85 }) 0xE0) 8 0x0102 0x10 (fun t => t.a == 0x0B) = true := by
  decide

theorem test_V101 :
    ran (withF ({ at_ 0x0100 [0xCB, 0x00] with b := 0x00 }) 0x10) 8 0x0102 0x80 (fun t => t.b == 0x00) = true := by
  decide

theorem test_V102 :
    ran (withF (withByte { at_ 0x0100 [0xCB, 0x06] with h := 0xC0, l := 0x00 } 0xC000 0x80) 0x00) 16 0x0102 0x10 (fun t => t.peek 0xC000 == 0x01) = true := by
  decide

theorem test_V103 :
    ran (withF ({ at_ 0x0100 [0xCB, 0x0F] with a := 0x01 }) 0x00) 8 0x0102 0x10 (fun t => t.a == 0x80) = true := by
  decide

theorem test_V104 :
    ran (withF (withByte { at_ 0x0100 [0xCB, 0x0E] with h := 0xC0, l := 0x00 } 0xC000 0x01) 0x00) 16 0x0102 0x10 (fun t => t.peek 0xC000 == 0x80) = true := by
  decide

theorem test_V105 :
    ran (withF ({ at_ 0x0100 [0xCB, 0x17] with a := 0x80 }) 0x00) 8 0x0102 0x90 (fun t => t.a == 0x00) = true := by
  decide

theorem test_V106 :
    ran (withF ({ at_ 0x0100 [0xCB, 0x17] with a := 0x00 }) 0x10) 8 0x0102 0x00 (fun t => t.a == 0x01) = true := by
  decide

theorem test_V107 :
    ran (withF (withByte { at_ 0x0100 [0xCB, 0x16] with h := 0xC0, l := 0x00 } 0xC000 0x80) 0x00) 16 0x0102 0x90 (fun t => t.peek 0xC000 == 0x00) = true := by
  decide

theorem test_V108 :
    ran (withF ({ at_ 0x0100 [0xCB, 0x1F] with a := 0x01 }) 0x00) 8 0x0102 0x90 (fun t => t.a == 0x00) = true := by
  decide

theorem test_V109 :
    ran (withF ({ at_ 0x0100 [0xCB, 0x1F] with a := 0x00 }) 0x10) 8 0x0102 0x00 (fun t => t.a == 0x80) = true := by
  decide

theorem test_V110 :
    ran (withF (withByte { at_ 0x0100 [0xCB, 0x1E] with h := 0xC0, l := 0x00 } 0xC000 0x01) 0x10) 16 0x0102 0x10 (fun t => t.peek 0xC000 == 0x80) = true := by
  decide

theorem test_V111 :
    ran (withF ({ at_ 0x0100 [0xCB, 0x27] with a := 0x80 }) 0x00) 8 0x0102 0x90 (fun t => t.a == 0x00) = true := by
  decide

theorem test_V112 :
    ran (withF (withByte { at_ 0x0100 [0xCB, 0x26] with h := 0xC0, l := 0x00 } 0xC000 0xC1) 0x00) 16 0x0102 0x10 (fun t => t.peek 0xC000 == 0x82) = true := by
  decide

theorem test_V113 :
    ran (withF ({ at_ 0x0100 [0xCB, 0x2F] with a := 0x80 }) 0x10) 8 0x0102 0x00 (fun t => t.a == 0xC0) = true := by
  decide

theorem test_V114 :
    ran (withF ({ at_ 0x0100 [0xCB, 0x2F] with a := 0x01 }) 0x00) 8 0x0102 0x90 (fun t => t.a == 0x00) = true := by
  decide

theorem test_V115 :
    ran (withF (withByte { at_ 0x0100 [0xCB, 0x2E] with h := 0xC0, l := 0x00 } 0xC000 0x81) 0x00) 16 0x0102 0x10 (fun t => t.peek 0xC000 == 0xC0) = true := by
  decide

theorem test_V116 :
    ran (withF ({ at_ 0x0100 [0xCB, 0x37] with a := 0x17 }) 0xF0) 8 0x0102 0x00 (fun t => t.a == 0x71) = true := by
  decide

theorem test_V117 :
    ran (withF ({ at_ 0x0100 [0xCB, 0x37] with a := 0x00 }) 0x10) 8 0x0102 0x80 (fun t => t.a == 0x00) = true := by
  decide

theorem test_V118 :
    ran (withF (withByte { at_ 0x0100 [0xCB, 0x36] with h := 0xC0, l := 0x00 } 0xC000 0xF0) 0x10) 16 0x0102 0x00 (fun t => t.peek 0xC000 == 0x0F) = true := by
  decide

theorem test_V119 :
    ran (withF ({ at_ 0x0100 [0xCB, 0x3F] with a := 0x01 }) 0x00) 8 0x0102 0x90 (fun t => t.a == 0x00) = true := by
  decide

theorem test_V120 :
    ran (withF ({ at_ 0x0100 [0xCB, 0x3F] with a := 0xFF }) 0x00) 8 0x0102 0x10 (fun t => t.a == 0x7F) = true := by
  decide

theorem test_V121 :
    ran (withF (withByte { at_ 0x0100 [0xCB, 0x3E] with h := 0xC0, l := 0x00 } 0xC000 0x01) 0x00) 16 0x0102 0x90 (fun t => t.peek 0xC000 == 0x00) = true := by
  decide

theorem test_V122 :
    faults { at_ 0x0100 [0xCB, 0x07] with platform := { space := .flat, unattachedRead := 0xFF, cbRotShift := .unimplemented } } ⟨true, 0x07, 0x0100⟩ [0xCB, 0x07] = true := by
  decide

theorem test_V130 :
    faults (at_ 0x0100 [0xD3]) ⟨false, 0xD3, 0x0100⟩ [0xD3] = true := by
  decide

/-- V4: the bytes of an instruction wrap from 0xFFFF to 0x0000. -/
theorem test_V4 :
    ran { at_ 0xFFFE [] with mem := [(0x0000, 0x12), (0xFFFE, 0xC3), (0xFFFF, 0x34)] } 16 0x1234 0xB0 (fun _ => true) =
      true := by
  decide

/-- V41 on the Memory Map: a store into the ROM region is issued and discarded. -/
theorem test_V41 :
    (match step { State.reset with mem := [(0x00D8, 0x77), (0x0100, 0x12)] } with
      | .next t => writes t == [(0x00D8, 0x01)] && t.peek 0x00D8 == 0x77
      | _ => false) = true := by
  decide

/-- V54: an inert location reads UNATTACHED_READ. -/
theorem test_V54 :
    (match step { State.reset with
        mem := [(0x0100, 0xF0), (0x0101, 0x44)],
        platform := { State.reset.platform with unattachedRead := 0x5A } } with
      | .next t => t.a == 0x5A && t.cycles == 12
      | _ => false) = true := by
  decide

/-- V131: the fault keeps PC at 0xFFFF. -/
theorem test_V131 : faults (at_ 0xFFFF [0xFF]) ⟨false, 0xFF, 0xFFFF⟩ [0xFF] = true := by decide

/-- The record of a step: the bytes fetched in order, then the read, then the write (spec/20_memory.md R57). -/
theorem test_access_order :
    (match step (withByte { at_ 0x0100 [0xCB, 0xFE] with h := 0xC0, l := 0x00 } 0xC000 0x01) with
      | .next t => t.accesses == [⟨.fetch, 0x0100, 0xCB⟩, ⟨.fetch, 0x0101, 0xFE⟩, ⟨.read, 0xC000, 0x01⟩,
          ⟨.write, 0xC000, 0x81⟩]
      | _ => false) = true := by
  decide

/-! ### Reset, and placing a word -/

/-- E6. -/
theorem test_reset :
    State.reset.get16 .pc = 0x0100 ∧ State.reset.get16 .sp = 0xFFFE ∧ packFlags State.reset.flags = 0xB0 := by
  decide

/-- The word placed at reset is the first instruction run: E7, and an extended row. -/
theorem test_withFetchWord :
    ran (State.reset.withFetchWord 24 0xC35001) 16 0x0150 0xB0 (fun _ => true) = true ∧
    ran (State.reset.withFetchWord 16 0xCBBF) 8 0x0102 0xB0 (fun t => t.a == 0x01) = true := by
  decide
/-! ### Witnesses: the hypotheses of the statements are met, each clause at a boundary of its range

A statement that is not named here has no hypothesis. -/

/-- The Memory Map with every region that can be RAM-backed so backed, and ECHO mirroring. -/
def allRam : Backing :=
  { vram := .ram, xram := .ram, wram := .ram, echo := .echo, oam := .ram, io := .ram, hram := .ram, ie := .ram }

/-- The reset state on the Memory Map with a backing. -/
def onMap (b : Backing) : State := { State.reset with platform := { State.reset.platform with space := .map b } }

theorem witness_ResetStateIsPostBoot : ∃ t, step (powerUp (at_ 0 []).platform [(0x0100, 0x00)]) = .next t :=
  ⟨_, rfl⟩

theorem witness_MalformedRomRefusesOnlyTheLaunch :
    (List.replicate 0x7FFF (0#8)).length ≠ 0x8000 ∧ (List.replicate 0x8001 (0#8)).length ≠ 0x8000 := by
  simp only [List.length_replicate]
  decide

theorem witness_LaunchedMachineReadsItsImage :
    (List.replicate 0x8000 (0#8)).length = 0x8000 ∧
    legalPlatform { space := .map allRam, unattachedRead := 0xFF, cbRotShift := .admitted } = true ∧
    legalPlatform { space := .map Backing.allInert, unattachedRead := 0x00, cbRotShift := .unimplemented } = true ∧
    Memory.wf [(0x0000, 0x12), (0x8000, 0x34), (0xFFFF, 0x56)] = true ∧
    (0x7FFF : Word).toNat < 0x8000 ∧ mapSlot Backing.allInert 0x8000 = .inert ∧ mapSlot allRam 0xFEA0 = .inert ∧
    mapSlot allRam 0x8000 = .cell 0x8000 ∧ mapSlot allRam 0xFFFF = .cell 0xFFFF ∧
    mapSlot allRam 0xFDFF = .cell 0xDDFF :=
  ⟨List.length_replicate .., by decide⟩

theorem witness_PairsAreViewsOfTheirHalves :
    ∀ x ∈ [(Reg16.bc, Reg8.b, Reg8.c), (Reg16.de, Reg8.d, Reg8.e), (Reg16.hl, Reg8.h, Reg8.l)],
      x ∈ [(Reg16.bc, Reg8.b, Reg8.c), (Reg16.de, Reg8.d, Reg8.e), (Reg16.hl, Reg8.h, Reg8.l)] ∧
      Reg8.a ≠ x.2.1 ∧ Reg8.a ≠ x.2.2 := by
  decide

theorem witness_AfWriteDropsTheLowNibble : Reg8.b ≠ Reg8.a := by decide

theorem witness_WordReadIsTwoByteReads : (0xFFFF : Word) = 0xFFFF := rfl

theorem witness_WrittenWordReadsBack :
    (Stores (at_ 0 []) 0xFFFF ∧ Stores (at_ 0 []) (0xFFFF + 1)) ∧
    (Stores (onMap allRam) 0xDFFF ∧ Stores (onMap allRam) (0xDFFF + 1)) ∧
    slotOf (onMap allRam).platform 0xC001 ≠ slotOf (onMap allRam).platform 0xDFFF ∧
    slotOf (onMap allRam).platform 0xC001 ≠ slotOf (onMap allRam).platform (0xDFFF + 1) :=
  ⟨⟨⟨_, rfl⟩, ⟨_, rfl⟩⟩, ⟨⟨_, rfl⟩, ⟨_, rfl⟩⟩, by decide⟩

/-- Both bounds of every region of R62, and no address in two. -/
theorem witness_RegionsByTheirBounds :
    [(0x0000, Region.rom), (0x7FFF, .rom), (0x8000, .vram), (0x9FFF, .vram), (0xA000, .xram), (0xBFFF, .xram),
      (0xC000, .wram), (0xDFFF, .wram), (0xE000, .echo), (0xFDFF, .echo), (0xFE00, .oam), (0xFE9F, .oam),
      (0xFEA0, .unusable), (0xFEFF, .unusable), (0xFF00, .io), (0xFF7F, .io), (0xFF80, .hram), (0xFFFE, .hram),
      (0xFFFF, .ie)].all (fun x : Word × Region => decide (regionOf x.1 = x.2)) = true := by
  decide

theorem witness_InertLocationsReadTheDefault :
    (onMap Backing.allInert).platform.space = .map Backing.allInert ∧
    [0x8000, 0xC000, 0xE000, 0xFEA0, 0xFEFF, 0xFFFF].all
      (fun a : Word => regionInert Backing.allInert (regionOf a)) = true := by
  decide

theorem witness_RamLocationsKeepTheLastWrite :
    (onMap allRam).platform.space = .map allRam ∧
    [0x8000, 0xBFFF, 0xC000, 0xDFFF, 0xFE00, 0xFF00, 0xFFFE, 0xFFFF].all
      (fun a : Word => regionRam allRam (regionOf a)) = true ∧
    Memory.lookup (onMap allRam).mem 0xC000 = none ∧
    slotOf (onMap allRam).platform 0xE001 ≠ slotOf (onMap allRam).platform 0xC000 := by
  decide

theorem witness_FlatRamCellsAreIndependent :
    (at_ 0x0000 []).platform.space = .flat ∧ (0x7FFF : Word) ≠ 0x0000 := by decide

theorem witness_EchoMirrorsWorkRam :
    (onMap allRam).platform.space = .map allRam ∧ allRam.echo = .echo ∧ allRam.wram = .ram ∧
    0xE000 ≤ (0xE000 : Word).toNat ∧ (0xE000 : Word).toNat ≤ 0xFDFF ∧
    0xE000 ≤ (0xFDFF : Word).toNat ∧ (0xFDFF : Word).toNat ≤ 0xFDFF := by
  decide

theorem witness_DecodeOfEncodeIsTheInstruction : WellFormed .nop ∧ WellFormed (.jp 0xFFFF) ∧ WellFormed .srlA := by
  decide

theorem witness_DecodedBytesAreTheEncoding : decode [0xCB, 0xFF, 0x00] = .ok (.set7A, [0x00]) := rfl

theorem witness_ListedBytesAreUnimplemented :
    unimplementedByte ((at_ 0x0100 [0x03]).peek (at_ 0x0100 [0x03]).pc) = true ∧
    unimplementedByte 0xFF = true ∧ unimplementedByte 0x76 = true ∧ unimplementedByte 0x77 = false := by
  decide

theorem witness_BitIndexIsQuotientOfDifference :
    extOpOf 0x40 = .bit 0 ∧ extOpOf 0x7F = .bit 7 ∧ extOpOf 0x80 = .res 0 ∧ extOpOf 0xBF = .res 7 ∧
    extOpOf 0xC0 = .set 0 ∧ extOpOf 0xFF = .set 7 ∧ (0x7F : Byte).toNat < 0x80 ∧ (0xBF : Byte).toNat < 0xC0 := by
  decide

theorem witness_StepRunsTheDecodedInstruction :
    let s := at_ 0xFFFD [0xCB, 0x07, 0x00]
    decode [s.peek s.pc, s.peek (s.pc + 1), s.peek (s.pc + 2)] = .ok (.rlcA, [0x00]) ∧
    ¬ (s.peek s.pc = 0xCB ∧ (s.peek (s.pc + 1)).toNat < 0x40 ∧ s.platform.cbRotShift = .unimplemented) :=
  ⟨rfl, by decide⟩

theorem witness_StepFaultsForTwoCauses :
    let s := at_ 0x0100 [0xCB, 0x3F]
    let u := { s with platform := { s.platform with cbRotShift := .unimplemented } }
    u.peek u.pc = 0xCB ∧ (u.peek (u.pc + 1)).toNat < 0x40 ∧ u.platform.cbRotShift = .unimplemented ∧
    unimplementedByte ((at_ 0x0100 [0xD3]).peek 0x0100) = true := by
  decide

/-- An instruction that is no rotate or shift on a platform without them, the extended opcode 0x40 next to the bound, a
rotate on a platform with them, and one on a platform without. -/
theorem witness_PlacedWordRunsNext :
    let refusing := { State.reset with platform := { State.reset.platform with cbRotShift := .unimplemented } }
    decodeTableWord 8 0x00 = some .nop ∧ (∀ e, encode .nop ≠ [0xCB, e]) ∧
    decodeTableWord 16 0xCB40 = some .bit0B ∧ encode .bit0B = [0xCB, 0x40] ∧ ¬ (0x40 : Byte).toNat < 0x40 ∧
    decodeTableWord 16 0xCB00 = some .rlcB ∧ State.reset.platform.cbRotShift ≠ .unimplemented ∧
    decodeTableWord 16 0xCB3F = some .srlA ∧ encode .srlA = [0xCB, 0x3F] ∧ (0x3F : Byte).toNat < 0x40 ∧
    refusing.platform.cbRotShift = .unimplemented :=
  ⟨by decide, fun _ h => (by cases h), by decide⟩

/-- Two states that differ in a register, the flags, the outputs and other memory, for a fault of each cause. -/
theorem witness_FaultDependsOnTheFetchedBytesAlone :
    (let s := at_ 0x0100 [0xD3]
     let t := { withByte (withF s 0x40) 0xC000 0x77 with a := 0x99, sp := 0, cycles := 16 }
     step s = .fault (.unimplementedOpcode ⟨false, 0xD3, 0x0100⟩ [⟨.fetch, 0x0100, 0xD3⟩]) ∧ t.pc = s.pc ∧
     t.peek s.pc = s.peek s.pc ∧ s.peek s.pc ≠ 0xCB) ∧
    (let p : Platform := { space := .flat, unattachedRead := 0x00, cbRotShift := .unimplemented }
     let s := { at_ 0xFFFF [0xCB] with platform := p, mem := [(0x0000, 0x3F), (0xFFFF, 0xCB)] }
     let t := { s with b := 0x77, platform := { p with unattachedRead := 0xFF } }
     step s = .fault (.unimplementedOpcode ⟨true, 0x3F, 0xFFFF⟩ [⟨.fetch, 0xFFFF, 0xCB⟩, ⟨.fetch, 0x0000, 0x3F⟩]) ∧
     t.pc = s.pc ∧ t.peek s.pc = s.peek s.pc ∧ t.peek (s.pc + 1) = s.peek (s.pc + 1) ∧
     t.platform.cbRotShift = s.platform.cbRotShift) :=
  ⟨⟨rfl, by decide⟩, ⟨rfl, by decide⟩⟩

theorem witness_ConditionalJumpFollowsItsFlag :
    (withF State.reset 0x00).flags.z = false ∧ (withF State.reset 0x80).flags.z = true ∧
    (withF State.reset 0x00).flags.c = false ∧ (withF State.reset 0x10).flags.c = true := by
  decide

theorem witness_JumpToItselfRunsForever :
    let s := at_ 0x0150 [0xC3, 0x50, 0x01]
    s.peek s.pc = 0xC3 ∧ bytesToWord (s.peek (s.pc + 2)) (s.peek (s.pc + 1)) = s.pc := by
  decide

theorem witness_StoreThenStepHL : Reg8.a ≠ Reg8.h ∧ Reg8.a ≠ Reg8.l := by decide

/-- The lowest and the highest bit of a byte. -/
theorem witness_ResAndSetForceTheBit : 0 < 8 ∧ 7 < 8 := by decide

theorem witness_RlcRotatesLeft : 0 < 8 ∧ 7 < 8 := by decide

theorem witness_RrcRotatesRight : 0 < 8 ∧ 7 < 8 := by decide

/-- The three premises of each clause, on a register and on a location that stores. -/
theorem witness_BitOperationLaws :
    let s := { at_ 0x0100 [] with h := 0xC0, l := 0x00 }
    Stores s (s.get16 .hl) ∧
    (∃ t u, exec (Instr.resOf 7 .mem) s = .next t ∧ exec (Instr.bitOf 7 .mem) t = .next u) ∧
    (∃ t u, exec (Instr.setOf 0 .mem) s = .next t ∧ exec (Instr.bitOf 0 .mem) t = .next u) ∧
    (∃ t u, exec (Instr.setOf 7 (.reg .h)) s = .next t ∧ exec (Instr.resOf 7 (.reg .h)) t = .next u) ∧
    ∃ t, exec (Instr.bitOf 0 .mem) s = .next t :=
  ⟨⟨_, rfl⟩, ⟨_, _, rfl, rfl⟩, ⟨_, _, rfl, rfl⟩, ⟨_, _, rfl, rfl⟩, ⟨_, rfl⟩⟩

/-- A step of a store, from a state with the invariant: for every statement about a step that completes. -/
theorem witness_StepKeepsTheInvariant :
    (at_ 0x0100 [0x02]).Inv ∧ ∃ t, step (at_ 0x0100 [0x02]) = .next t :=
  ⟨⟨by decide, by decide⟩, _, rfl⟩

theorem witness_RomImageNeverChanges :
    let s := { onMap allRam with mem := [(0x0000, 0xFF), (0x0100, 0x12)] }
    s.platform.space = .map allRam ∧ (∃ t, step s = .next t) ∧ (0x7FFF : Word).toNat ≤ 0x7FFF :=
  ⟨rfl, ⟨_, rfl⟩, by decide⟩

theorem witness_InertMapHidesEveryStore :
    let s := { onMap Backing.allInert with mem := [(0x0100, 0x22), (0x0101, 0x32)] }
    s.platform.space = .map Backing.allInert ∧ ∃ t, CompletesIn 2 s t :=
  ⟨rfl, _, rfl⟩

theorem witness_OnlyARecordedWriteChangesAByte :
    let s := withByte { at_ 0x0100 [0x02] with b := 0xC0, c := 0x00 } 0xC000 0x55
    ∃ t, step s = .next t ∧ t.peek 0xC000 ≠ s.peek 0xC000 :=
  ⟨_, rfl, by decide⟩

theorem witness_AccessesInOrder :
    (∃ t, step (at_ 0x0100 [0xCB, 0x86]) = .next t) ∧
    ∃ record reads, step (at_ 0x0100 [0xD3]) = .fault (.unimplementedOpcode record reads) :=
  ⟨⟨_, rfl⟩, ⟨_, _, rfl⟩⟩

theorem witness_OnlyJumpsLeaveTheSequence :
    (∃ t, step (at_ 0x0100 [0x31, 0x00, 0x00]) = .next t) ∧ jumpByte 0x31 = false ∧
    (primary 0x31).map Shape.length = some 3 :=
  ⟨⟨_, rfl⟩, by decide, rfl⟩

/-- A step that keeps all flags, and one that keeps Carry but not the others. -/
theorem witness_FlagsChangeOnlyByTheTable :
    (∃ t, step (at_ 0x0100 [0xCB, 0x80]) = .next t) ∧ writesFlags 0xCB 0x80 = false ∧
    (∃ t, step (at_ 0x0100 [0xCB, 0x40]) = .next t) ∧ writesCarry 0xCB 0x40 = false ∧ writesFlags 0xCB 0x40 = true ∧
    writesCarry 0xCB 0x3F = true ∧ writesFlags 0xCB 0x7F = true :=
  ⟨⟨_, rfl⟩, by decide, ⟨_, rfl⟩, by decide⟩

/-- `BIT` writes no register, `RES` its operand and no other. -/
theorem witness_RegistersChangeOnlyByTheTable :
    (∃ t, step (at_ 0x0100 [0xCB, 0x80]) = .next t) ∧ writesReg 0xCB 0x80 .b = true ∧ writesReg 0xCB 0x80 .c = false ∧
    writesReg 0xCB 0x40 .b = false ∧ writesReg 0xCB 0x7F .a = false ∧ writesReg 0xCB 0x3F .a = true ∧
    (at_ 0x0100 [0xCB, 0x80]).peek (at_ 0x0100 [0xCB, 0x80]).pc ≠ 0x31 :=
  ⟨⟨_, rfl⟩, by decide⟩

theorem witness_NoStepReadsNOrH :
    (∃ t, step (at_ 0x0100 [0x20, 0x05]) = .next t) ∧ ∃ r, step (at_ 0x0100 [0xD3]) = .fault r :=
  ⟨⟨_, rfl⟩, ⟨_, rfl⟩⟩

theorem witness_NoStepReadsSpOrTheLastOutput :
    (∃ t, step (at_ 0x0100 [0x31, 0x00, 0xD0]) = .next t) ∧ ∃ r, step (at_ 0x0100 [0xD3]) = .fault r :=
  ⟨⟨_, rfl⟩, ⟨_, rfl⟩⟩

end Sys2Proof.Tests
end

section
/-! Every meaning completes, every step runs a meaning or faults, and so a step has two outcomes. -/

namespace Sys2Proof.Machine

theorem extendedOp_completes (op : ExtOp) (z : Operand) (s : State) : ∃ t, extendedOp op z s = .next t := by
  cases op <;> exact ⟨_, rfl⟩

theorem jumpCond_completes (cc : Cond) (a16 : Word) (s : State) : ∃ t, jumpCond cc a16 s = .next t := by
  unfold jumpCond
  split <;> exact ⟨_, rfl⟩

theorem jumpRelCond_completes (cc : Cond) (r8 : Byte) (s : State) : ∃ t, jumpRelCond cc r8 s = .next t := by
  unfold jumpRelCond
  split <;> exact ⟨_, rfl⟩

/-- No meaning faults or refuses: the one fault is the fetch's (spec/60_exceptions.md R200). -/
theorem exec_completes (i : Instr) (s : State) : ∃ t, exec i s = .next t := by
  induction i using Instr.byFamily with
  | jpcc cc a16 => rw [exec_jpOf]; exact jumpCond_completes cc a16 s
  | jrcc cc r8 => rw [exec_jrOf]; exact jumpRelCond_completes cc r8 s
  | ldPair p v => rw [exec_ldPairOf]; exact ⟨_, rfl⟩
  | ldReg r v => rw [exec_ldRegOf]; exact ⟨_, rfl⟩
  | dec r => rw [exec_decOf]; exact ⟨_, rfl⟩
  | prefixCB e => exact extendedOp_completes _ _ s
  | ext op z => rw [exec_extOf]; exact extendedOp_completes op z s
  | _ => exact ⟨_, rfl⟩

/-- The count is part of what any instruction has done (`exec_effect`). -/
theorem exec_completes_with_count (i : Instr) (s : State) :
    ∃ t, exec i s = .next t ∧ t.cycles ∈ [4, 8, 12, 16] := by
  obtain ⟨t, ht⟩ := exec_completes i s
  exact ⟨t, ht, (exec_effect i s t ht).cycles⟩

/-- A step runs a meaning behind the fetch of the instruction's bytes, or it is the fetch's fault, recorded at PC. -/
theorem step_runs_or_faults (s : State) :
    (∃ i shape, primary (s.peek s.pc) = some shape ∧ step s = exec i (s.afterFetch shape.length)) ∨
    ∃ prefixed opcode reads, step s = .fault (.unimplementedOpcode ⟨prefixed, opcode, s.pc⟩ reads) := by
  cases hp : primary (s.peek s.pc) with
  | none => exact .inr ⟨_, _, _, step_unimplemented s hp⟩
  | some shape =>
    cases shape with
    | op i => exact .inl ⟨_, _, rfl, step_op s i hp⟩
    | imm8 mk => exact .inl ⟨_, _, rfl, step_imm8 s mk hp⟩
    | imm16 mk => exact .inl ⟨_, _, rfl, step_imm16 s mk hp⟩
    | ext =>
      have hs := step_ext s hp
      cases hr : rotShiftRefused s.platform (s.peek (s.pc + 1)) with
      | true => exact .inr ⟨_, _, _, by rw [hs, hr]⟩
      | false => exact .inl ⟨_, _, rfl, by rw [hs, hr]; rfl⟩

/-- Settles O21: a step that runs a meaning completes with one of the four counts, and any other is the fault at PC. -/
theorem stepHasTwoOutcomes : Obligations.StepHasTwoOutcomes := by
  intro s
  obtain ⟨i, shape, -, hrun⟩ | hfault := step_runs_or_faults s
  · rw [hrun]
    exact .inl (exec_completes_with_count i _)
  · exact .inr hfault

end Sys2Proof.Machine
end

section
/-! The invariant at reset and over a step, and the first fetch after power-up. -/

namespace Sys2Proof.Machine

/-- What an instruction adds to the record of accesses comes after what was recorded before it. -/
theorem Effect.accesses_prefix {s t : State} (h : Effect s t) : s.accesses <+: t.accesses := by
  obtain ⟨-, ha | ⟨a, v, ha⟩⟩ | ⟨x, v, -, ha | ⟨w, ha⟩⟩ := h.memory <;> rw [ha]
  all_goals first | exact List.prefix_refl _ | exact List.prefix_append _ _

/-- An instruction keeps memory in its canonical form: it leaves it alone or writes one byte. -/
theorem Effect.memCanonical {s t : State} (h : Effect s t) (hs : Memory.wf s.mem = true) :
    Memory.wf t.mem = true := by
  obtain ⟨hm, -⟩ | ⟨x, v, hm, -⟩ := h.memory
  · rw [hm]; exact hs
  · rw [hm]; exact wf_storeByte s.platform s.mem x v hs

/-- A step that completes had the effect of an instruction on the state with its bytes fetched. -/
theorem step_effect (s t : State) (h : step s = .next t) :
    ∃ shape, primary (s.peek s.pc) = some shape ∧ Effect (s.afterFetch shape.length) t := by
  obtain ⟨i, shape, hp, hi⟩ := step_next s t h
  exact ⟨shape, hp, exec_effect i _ t hi⟩

/-- Settles O51: a fetch touches neither memory nor the parameters, and no instruction's effect breaks either part of
the invariant. -/
theorem stepKeepsTheInvariant : Obligations.StepKeepsTheInvariant := by
  intro s t hs h
  obtain ⟨shape, -, he⟩ := step_effect s t h
  have hplatform : t.platform = s.platform := he.platform
  exact ⟨⟨he.memCanonical hs.memCanonical, hplatform ▸ hs.platformLegal⟩, hplatform⟩

/-- Settles O50: no byte is stored at reset, and the source's platform has no mirror. -/
theorem resetMeetsTheInvariant : Obligations.ResetMeetsTheInvariant where
  memCanonical := wf_reset
  platformLegal := rfl

theorem shape_length_pos (shape : Shape) : 0 < shape.length := by
  cases shape <;> simp [Shape.length]

/-- The first read of a fetch is the byte at PC. -/
theorem fetchLog_eq_cons (s : State) (n : Nat) (hn : 0 < n) :
    ∃ rest, fetchLog s n = { kind := .fetch, addr := s.pc, byte := s.peek s.pc } :: rest := by
  cases n with
  | zero => exact absurd hn (Nat.lt_irrefl 0)
  | succ k =>
    rw [fetchLog, List.range_succ_eq_map, List.map_cons, BitVec.add_zero]
    exact ⟨_, rfl⟩

/-- The first access of a step that completes is the fetch of the byte at PC. -/
theorem step_first_access (s t : State) (h : step s = .next t) :
    ∃ rest, t.accesses = { kind := .fetch, addr := s.pc, byte := s.peek s.pc } :: rest := by
  obtain ⟨shape, -, he⟩ := step_effect s t h
  obtain ⟨data, hdata⟩ := he.accesses_prefix
  obtain ⟨rest, hrest⟩ := fetchLog_eq_cons s shape.length (shape_length_pos shape)
  exact ⟨rest ++ data, by rw [← hdata, afterFetch_accesses, hrest, List.cons_append]⟩

/-- Power-up leaves the core as at reset, whatever the parameters and the contents of memory. -/
theorem sameCore_powerUp (p : Platform) (m : Memory) : SameCore State.reset (powerUp p m) :=
  ⟨fun r => by cases r <;> rfl, rfl, rfl, rfl⟩

/-- Settles O1: the values are the reset state's own, and the first access of the first step is at its PC. -/
theorem resetStateIsPostBoot : Obligations.ResetStateIsPostBoot := by
  refine ⟨rfl, rfl, rfl, rfl, rfl, rfl, rfl, rfl, rfl, rfl, rfl, rfl, rfl, rfl, rfl, fun p m => ?_⟩
  refine ⟨sameCore_powerUp p m, fun t h => ?_⟩
  obtain ⟨rest, hrest⟩ := step_first_access (powerUp p m) t h
  exact ⟨(powerUp p m).peek 0x0100, rest, hrest⟩

end Sys2Proof.Machine
end

section
/-! The register file's views: the pairs, and F with AF. -/

namespace Sys2Proof.Machine

theorem wordToBytes_fst_toNat (v : Word) : (wordToBytes v).1.toNat = v.toNat / 256 := by
  simp only [wordToBytes, BitVec.extractLsb'_toNat, Nat.shiftRight_eq_div_pow]
  omega

theorem wordToBytes_snd_toNat (v : Word) : (wordToBytes v).2.toNat = v.toNat % 256 := by
  simp only [wordToBytes, BitVec.extractLsb'_toNat, Nat.shiftRight_zero]

/-- Settles O4: each of the three pairs is the word of its halves, and writing it writes its halves alone. -/
theorem pairsAreViewsOfTheirHalves : Obligations.PairsAreViewsOfTheirHalves := by
  intro s v p hi lo hmem
  have hread : ∀ x y : Byte, (bytesToWord x y).toNat = 256 * x.toNat + y.toNat := fun x y => by
    rw [bytesToWord_toNat, Nat.mul_comm]
  have hhi := wordToBytes_fst_toNat v
  have hlo := wordToBytes_snd_toNat v
  have hback := bytesToWord_wordToBytes v
  simp only [List.mem_cons, Prod.mk.injEq, List.not_mem_nil, or_false] at hmem
  obtain ⟨rfl, rfl, rfl⟩ | ⟨rfl, rfl, rfl⟩ | ⟨rfl, rfl, rfl⟩ := hmem
  all_goals
    refine ⟨hread _ _, hback, hhi, hlo, fun r hne_hi hne_lo => ?_, rfl, rfl, rfl, peek_set16 s _ v⟩
    cases r <;> first | rfl | exact absurd rfl hne_hi | exact absurd rfl hne_lo

/-- F as a number: each flag at its place (spec/10_state.md R36). -/
theorem packFlags_toNat (f : Flags) :
    (packFlags f).toNat = 128 * f.z.toNat + 64 * f.n.toNat + 32 * f.h.toNat + 16 * f.c.toNat := by
  obtain ⟨z, n, h, c⟩ := f
  revert z n h c
  decide

@[simp] theorem unpackFlags_packFlags (f : Flags) : unpackFlags (packFlags f) = f := by
  obtain ⟨z, n, h, c⟩ := f
  revert z n h c
  decide

/-- Packing what a byte unpacks to drops its low nibble. -/
@[simp] theorem packFlags_unpackFlags : ∀ v : Byte, packFlags (unpackFlags v) = v &&& 0xF0 := by decide

/-- Settles O5: packing is injective with `unpackFlags` as its inverse, and its value is a multiple of 16. -/
theorem flagsPackIntoHighNibble : Obligations.FlagsPackIntoHighNibble := by
  refine ⟨fun f => ⟨packFlags_toNat f, ?_, unpackFlags_packFlags f⟩, packFlags_unpackFlags⟩
  calc packFlags f &&& 0x0F = (packFlags f &&& 0xF0) &&& 0x0F := by
        rw [← packFlags_unpackFlags, unpackFlags_packFlags]
    _ = 0 := by rw [BitVec.and_assoc]; exact BitVec.and_zero

/-- Dropping the low nibble of a word's low byte drops that of the word. -/
theorem bytesToWord_drop_low_nibble (hi lo : Byte) :
    bytesToWord hi (lo &&& 0xF0) = bytesToWord hi lo &&& 0xFFF0 := by
  calc bytesToWord hi (lo &&& 0xF0) = (hi &&& 0xFF#8) ++ (lo &&& 0xF0#8) := by
        rw [show hi &&& 0xFF#8 = hi from BitVec.and_allOnes]; rfl
    _ = bytesToWord hi lo &&& 0xFFF0 := BitVec.and_append.symm

/-- Settles O6: the low byte of the word goes through `unpackFlags` and comes back without its low nibble. -/
theorem afWriteDropsTheLowNibble : Obligations.AfWriteDropsTheLowNibble := by
  intro s v
  have hread : (s.get16 .af).toNat = 256 * s.a.toNat + (packFlags s.flags).toNat := by
    rw [Nat.mul_comm]; exact bytesToWord_toNat _ _
  have hback : (s.set16 .af v).get16 .af = v &&& 0xFFF0 :=
    calc (s.set16 .af v).get16 .af = bytesToWord (wordToBytes v).1 (packFlags (unpackFlags (wordToBytes v).2)) := rfl
      _ = v &&& 0xFFF0 := by rw [packFlags_unpackFlags, bytesToWord_drop_low_nibble, bytesToWord_wordToBytes]
  have hflags : (s.set16 .af v).flags =
      { z := v.getLsbD 7, n := v.getLsbD 6, h := v.getLsbD 5, c := v.getLsbD 4 } := by
    simp [State.set16, unpackFlags, wordToBytes]
  refine ⟨hread, hback, wordToBytes_fst_toNat v, hflags, fun r hr => ?_, rfl, rfl, peek_set16 s .af v⟩
  cases r <;> first | rfl | exact absurd rfl hr

end Sys2Proof.Machine
end

section
/-! What memory holds after a launch: the image, and above it the initial contents the host gives. -/

namespace Sys2Proof.Machine

theorem Memory.lookup_append (m₁ m₂ : Memory) (a : Nat) :
    Memory.lookup (m₁ ++ m₂) a = (Memory.lookup m₁ a).or (Memory.lookup m₂ a) := by
  induction m₁ with
  | nil => rfl
  | cons x m ih =>
    obtain ⟨b, v⟩ := x
    by_cases hab : a = b <;> simp [Memory.lookup, hab, ih]

/-- An image laid out from `lo` on holds its bytes from `lo` on and nothing else. -/
theorem lookup_imageCells (lo : Nat) (bytes : List Byte) (a : Nat) :
    Memory.lookup (imageCells lo bytes) a = if lo ≤ a then bytes[a - lo]? else none := by
  induction bytes generalizing lo with
  | nil => simp [imageCells, Memory.lookup]
  | cons v bytes ih =>
    rw [imageCells, Memory.lookup, ih]
    obtain hlt | rfl | hgt := Nat.lt_trichotomy a lo
    · rw [if_neg (by omega), if_neg (by omega), if_neg (by omega)]
    · simp
    · obtain ⟨k, rfl⟩ := Nat.exists_eq_add_of_lt hgt
      rw [if_neg (by omega), if_pos (by omega), if_pos (by omega), show lo + k + 1 - (lo + 1) = k by omega,
        show lo + k + 1 - lo = k + 1 by omega, List.getElem?_cons_succ]

/-- Dropping the cells below `lo` drops no cell from `lo` on. -/
theorem Memory.lookup_filter_from (lo : Nat) (m : Memory) (a : Nat) (ha : lo ≤ a) :
    Memory.lookup (m.filter fun cell => decide (lo ≤ cell.1)) a = Memory.lookup m a := by
  induction m with
  | nil => rfl
  | cons x m ih =>
    obtain ⟨b, v⟩ := x
    by_cases hb : lo ≤ b
    · simp [Memory.lookup, hb, ih]
    · have hab : a ≠ b := by omega
      simp [Memory.lookup, hb, hab, ih]

/-- An image and, behind its end, canonical memory are canonical together. -/
theorem Memory.risesFrom_imageCells_append (lo : Nat) (bytes : List Byte) (m : Memory)
    (hend : lo + bytes.length ≤ 0x10000) (hm : Memory.risesFrom (lo + bytes.length) m = true) :
    Memory.risesFrom lo (imageCells lo bytes ++ m) = true := by
  induction bytes generalizing lo with
  | nil => exact hm
  | cons v bytes ih =>
    rw [List.length_cons] at hend hm
    have htail := ih (lo + 1) (by omega) (by rwa [Nat.add_right_comm, Nat.add_assoc])
    simp only [imageCells, List.cons_append, Memory.risesFrom, Bool.and_eq_true, decide_eq_true_eq]
    exact ⟨⟨Nat.le_refl lo, by omega⟩, htail⟩

/-- The cells from `hi` on of canonical memory are canonical, and they rise from `hi`. -/
theorem Memory.risesFrom_filter_from (lo hi : Nat) (m : Memory) (hm : Memory.risesFrom lo m = true) :
    Memory.risesFrom (max lo hi) (m.filter fun cell => decide (hi ≤ cell.1)) = true := by
  induction m generalizing lo with
  | nil => rfl
  | cons x m ih =>
    obtain ⟨a, v⟩ := x
    simp only [Memory.risesFrom, Bool.and_eq_true, decide_eq_true_eq] at hm
    obtain ⟨⟨hla, ha⟩, htail⟩ := hm
    by_cases hb : hi ≤ a
    · rw [List.filter_cons_of_pos (by simpa using hb)]
      simp only [Memory.risesFrom, Bool.and_eq_true, decide_eq_true_eq]
      exact ⟨⟨by omega, ha⟩, Memory.risesFrom_mono _ _ _ (by omega) (ih (a + 1) htail)⟩
    · rw [List.filter_cons_of_neg (by simpa using hb)]
      exact Memory.risesFrom_mono _ _ _ (by omega) (ih (a + 1) htail)

/-- The stored bytes after a launch: the image, and the initial contents above it. -/
def launchMemory (rom : List Byte) (ram : Memory) : Memory :=
  imageCells 0 rom ++ ram.filter fun cell => decide (0x8000 ≤ cell.1)

theorem launch_eq_powerUp (p : Platform) (rom : List Byte) (ram : Memory) (hrom : rom.length = 0x8000)
    (hp : legalPlatform p = true) : launch p rom ram = .next (powerUp p (launchMemory rom ram)) := by
  rw [launch, if_pos hrom, if_pos hp, launchMemory]

section
variable (rom : List Byte) (ram : Memory) (hrom : rom.length = 0x8000)
include hrom

theorem wf_launchMemory (hram : Memory.wf ram = true) : Memory.wf (launchMemory rom ram) = true := by
  have hupper := Memory.risesFrom_filter_from 0 0x8000 ram hram
  refine Memory.risesFrom_imageCells_append 0 rom _ (by omega) ?_
  rwa [Nat.zero_add, hrom]

/-- Below 0x8000 a launched machine's memory holds the image. -/
theorem byteAt_launchMemory_image (a : Word) (ha : a.toNat < 0x8000) :
    rom[a.toNat]? = some (Memory.byteAt (launchMemory rom ram) a) := by
  obtain ⟨v, hv⟩ : ∃ v, rom[a.toNat]? = some v := ⟨_, List.getElem?_eq_getElem (hrom ▸ ha)⟩
  have hlookup : Memory.lookup (launchMemory rom ram) a.toNat = some v := by
    rw [launchMemory, Memory.lookup_append, lookup_imageCells, if_pos (Nat.zero_le _), Nat.sub_zero, hv,
      Option.some_or]
  rw [hv, Memory.byteAt, hlookup, Option.getD_some]

/-- From 0x8000 on it holds the initial contents that the host gave. -/
theorem byteAt_launchMemory_above (a : Word) (ha : 0x8000 ≤ a.toNat) :
    Memory.byteAt (launchMemory rom ram) a = Memory.byteAt ram a := by
  have hnone : rom[a.toNat]? = none := List.getElem?_eq_none (hrom ▸ ha)
  have hlookup : Memory.lookup (launchMemory rom ram) a.toNat = Memory.lookup ram a.toNat := by
    rw [launchMemory, Memory.lookup_append, lookup_imageCells, if_pos (Nat.zero_le _), Nat.sub_zero, hnone,
      Option.none_or, Memory.lookup_filter_from _ _ _ ha]
  rw [Memory.byteAt, Memory.byteAt, hlookup]

end

theorem peek_of_cell (s : State) (a x : Word) (h : slotOf s.platform a = .cell x) :
    s.peek a = Memory.byteAt s.mem x := by
  simp only [State.peek, h]

theorem peek_of_rom (s : State) (a x : Word) (h : slotOf s.platform a = .rom x) :
    s.peek a = Memory.byteAt s.mem x := by
  simp only [State.peek, h]

theorem peek_of_inert (s : State) (a : Word) (h : slotOf s.platform a = .inert) :
    s.peek a = s.platform.unattachedRead := by
  simp only [State.peek, h]

/-- Settles O3: the launch succeeds, and each kind of location reads its part of `launchMemory`. -/
theorem launchedMachineReadsItsImage : Obligations.LaunchedMachineReadsItsImage := by
  intro b u cb rom ram hrom hp hram
  refine ⟨_, launch_eq_powerUp _ rom ram hrom hp, sameCore_powerUp _ _, ⟨wf_launchMemory rom ram hrom hram, hp⟩,
    fun a ha => ?image, fun a hslot => peek_of_inert _ a hslot, fun a x hslot => ?cell⟩
  case image =>
    refine (byteAt_launchMemory_image rom ram hrom a ha).trans (congrArg some (Eq.symm ?_))
    exact peek_of_rom _ a a (mapSlot_rom b a (Nat.le_of_lt_succ ha))
  case cell =>
    refine Eq.trans ?_ (byteAt_launchMemory_above rom ram hrom x (mapSlot_cell b a x hslot))
    exact peek_of_cell _ a x hslot

end Sys2Proof.Machine
end

section
/-! The tables of the decoder invert the encoder. -/

namespace Sys2Proof

/-- The number of an operation in the extended table, its row (spec/30_encoding.md R94). -/
def ExtOp.row : ExtOp → Nat
  | .rlc => 0
  | .rrc => 1
  | .rl => 2
  | .rr => 3
  | .sla => 4
  | .sra => 5
  | .swap => 6
  | .srl => 7
  | .bit n => 8 + n.val
  | .res n => 16 + n.val
  | .set n => 24 + n.val

/-- The number of an operand in the operand field (spec/30_encoding.md R83). -/
def Operand.field : Operand → Nat
  | .reg r => Machine.fieldOfReg r
  | .mem => 6

/-- The extended opcode of an operation on an operand. -/
def extByte (op : ExtOp) (z : Operand) : Byte := BitVec.ofNat 8 (8 * op.row + z.field)

theorem Operand.field_lt (z : Operand) : z.field < 8 := by
  cases z with
  | reg r => cases r <;> decide
  | mem => decide

theorem ExtOp.row_lt (o : ExtOp) : o.row < 32 := by
  cases o <;> simp only [ExtOp.row] <;> omega

theorem extByte_toNat (o : ExtOp) (z : Operand) : (extByte o z).toNat = 8 * o.row + z.field := by
  have hrow := o.row_lt
  have hfield := z.field_lt
  rw [extByte, BitVec.toNat_ofNat]
  omega

theorem encode_extOf (op : ExtOp) (z : Operand) : encode (Instr.extOf op z) = cbOp (extByte op z) := by
  cases op with
  | bit n | res n | set n => fin_cases n <;> (cases z with | reg r => cases r <;> rfl | mem => rfl)
  | _ => cases z with
    | reg r => cases r <;> rfl
    | mem => rfl

theorem extByte_of_fields : ∀ e : Byte, extByte (extOpOf e) (operandOf e) = e := by decide

theorem encode_extended (e : Byte) : encode (extended e) = cbOp e := by
  rw [extended, encode_extOf, extByte_of_fields]

/-- The instruction of a row of the primary table, given the two bytes that follow the opcode byte. -/
def Shape.instr (shape : Shape) (b₁ b₂ : Byte) : Instr :=
  match shape with
  | .op i => i
  | .imm8 mk => mk b₁
  | .imm16 mk => mk (bytesToWord b₂ b₁)
  | .ext => extended b₁

theorem opD16_bytesToWord (op hi lo : Byte) : opD16 op (bytesToWord hi lo) = [op, lo, hi] := by
  rw [opD16, Machine.wordToBytes_bytesToWord]

theorem byte_of_toNat_eq {op : Byte} {n : Nat} (h : op.toNat = n) : op = BitVec.ofNat 8 n := by
  rw [← h, BitVec.ofNat_toNat, BitVec.setWidth_eq]

/-- The instruction of a row is encoded by as many of the bytes it was read from as the row's length says. The rows are
of three kinds: a constructor whose encoding is written out, a word, and the extended table. -/
theorem encode_primary (op b₁ b₂ : Byte) (shape : Shape) (h : primary op = some shape) :
    encode (shape.instr b₁ b₂) = [op, b₁, b₂].take shape.length := by
  unfold primary at h
  split at h <;> rename_i hop <;> cases h
  all_goals
    obtain rfl := byte_of_toNat_eq hop
    first
      | rfl
      | exact opD16_bytesToWord _ b₂ b₁
      | exact encode_extended b₁

end Sys2Proof
end

section
/-! What a step fetches: the instruction whose encoding stands at PC, the same for every state that agrees on PC, memory
and the launch parameters. -/

namespace Sys2Proof.Machine

/-- Two states agree on all that a fetch reads. -/
structure SameFetch (s u : State) : Prop where
  pc : u.pc = s.pc
  mem : u.mem = s.mem
  platform : u.platform = s.platform

theorem SameFetch.refl (s : State) : SameFetch s s := ⟨rfl, rfl, rfl⟩

theorem SameFetch.peek {s u : State} (h : SameFetch s u) (a : Word) : u.peek a = s.peek a :=
  peek_congr s u a h.mem h.platform

theorem SameFetch.fetchLog {s u : State} (h : SameFetch s u) (n : Nat) : fetchLog u n = fetchLog s n := by
  simp only [Machine.fetchLog, h.pc, h.peek]

/-- The instruction that a row of the primary table reads from the bytes at PC. -/
def State.instrAtPc (s : State) (shape : Shape) : Instr := shape.instr (s.peek (s.pc + 1)) (s.peek (s.pc + 1 + 1))

/-- The byte at PC is the opcode byte of the row `shape`, and a step of `s`, and of every state that fetches alike, runs
the row's instruction. -/
structure Fetches (s : State) (shape : Shape) : Prop where
  row : primary (s.peek s.pc) = some shape
  runs : ∀ u, SameFetch s u → step u = exec (s.instrAtPc shape) (u.afterFetch shape.length)

/-- The instruction at PC is encoded by the bytes there. -/
theorem Fetches.encode_prefix {s : State} {shape : Shape} (h : Fetches s shape) :
    encode (s.instrAtPc shape) <+: [s.peek s.pc, s.peek (s.pc + 1), s.peek (s.pc + 1 + 1)] := by
  rw [State.instrAtPc, encode_primary _ _ _ shape h.row]
  exact List.take_prefix _ _

/-- A step of `s`, and of every state that fetches alike, is the fault `r`. -/
def FetchFaults (s : State) (r : Fault) : Prop := ∀ u, SameFetch s u → step u = .fault r

/-- The extended opcode at PC is one that CB_ROTSHIFT leaves unimplemented. -/
def ExtRefused (s : State) (shape : Shape) : Prop :=
  shape = .ext ∧ rotShiftRefused s.platform (s.peek (s.pc + 1)) = true

theorem step_admitted (s : State) (shape : Shape) (h : primary (s.peek s.pc) = some shape)
    (hr : ¬ ExtRefused s shape) :
    step s = exec (s.instrAtPc shape) (s.afterFetch shape.length) := by
  cases shape with
  | op i => exact step_op s i h
  | imm8 mk => exact step_imm8 s mk h
  | imm16 mk => exact step_imm16 s mk h
  | ext =>
    have hadmit : rotShiftRefused s.platform (s.peek (s.pc + 1)) = false :=
      Bool.eq_false_iff.mpr fun hrefused => hr ⟨rfl, hrefused⟩
    rw [step_ext s h, hadmit]
    rfl

theorem step_refused (s : State) (shape : Shape) (h : primary (s.peek s.pc) = some shape) (hr : ExtRefused s shape) :
    step s = .fault (.unimplementedOpcode ⟨true, s.peek (s.pc + 1), s.pc⟩ (fetchLog s 2)) := by
  obtain ⟨rfl, hrefused⟩ := hr
  rw [step_ext s h, hrefused]

/-- A state runs the instruction at PC or faults, and so does every state that fetches alike. -/
theorem fetches_or_faults (s : State) : (∃ shape, Fetches s shape) ∨ ∃ r, FetchFaults s r := by
  cases hp : primary (s.peek s.pc) with
  | none =>
    refine .inr ⟨.unimplementedOpcode ⟨false, s.peek s.pc, s.pc⟩ (fetchLog s 1), fun u hu => ?_⟩
    rw [step_unimplemented u (by rw [hu.pc, hu.peek, hp]), hu.pc, hu.peek, hu.fetchLog]
  | some shape =>
    have hpu : ∀ u, SameFetch s u → primary (u.peek u.pc) = some shape := fun u hu => by rw [hu.pc, hu.peek, hp]
    have hru : ∀ u, SameFetch s u → (ExtRefused u shape ↔ ExtRefused s shape) := fun u hu => by
      rw [ExtRefused, hu.platform, hu.pc, hu.peek, ExtRefused]
    by_cases hr : ExtRefused s shape
    · refine .inr ⟨.unimplementedOpcode ⟨true, s.peek (s.pc + 1), s.pc⟩ (fetchLog s 2), fun u hu => ?_⟩
      rw [step_refused u shape (hpu u hu) ((hru u hu).mpr hr), hu.pc, hu.peek, hu.fetchLog]
    · refine .inl ⟨shape, hp, fun u hu => ?_⟩
      rw [step_admitted u shape (hpu u hu) (mt (hru u hu).mp hr), State.instrAtPc, hu.pc, hu.peek, hu.peek,
        State.instrAtPc]

/-- A step that completes ran the instruction at PC. -/
theorem step_next_fetches (s t : State) (h : step s = .next t) :
    ∃ shape, Fetches s shape ∧ exec (s.instrAtPc shape) (s.afterFetch shape.length) = .next t := by
  obtain ⟨shape, hf⟩ | ⟨r, hr⟩ := fetches_or_faults s
  · exact ⟨shape, hf, hf.runs s (.refl s) ▸ h⟩
  · rw [hr s (.refl s)] at h
    cases h

/-- A step that faults is the fetch's fault, no meaning's. -/
theorem step_fault_fetchFaults (s : State) (r : Fault) (h : step s = .fault r) : FetchFaults s r := by
  obtain ⟨shape, hf⟩ | ⟨r', hr⟩ := fetches_or_faults s
  · obtain ⟨t, ht⟩ := exec_completes (s.instrAtPc shape) (s.afterFetch shape.length)
    rw [hf.runs s (.refl s), ht] at h
    cases h
  · have heq := (hr s (.refl s)).symm.trans h
    cases heq
    exact hr

end Sys2Proof.Machine
end

section
/-! What any instruction may change, by the tables over its bytes (spec/10_state.md R23, R29, R33, R37). -/

namespace Sys2Proof.Machine

/-- From `s` to `t` changed only what the tables give an instruction with opcode byte `op` and second byte `e`. -/
structure ChangesByTable (op e : Byte) (s t : State) : Prop where
  pc : jumpByte op = false → t.pc = s.pc
  flags : writesFlags op e = false → t.flags = s.flags
  carry : writesCarry op e = false → t.flags.c = s.flags.c
  regs : ∀ r, writesReg op e r = false → t.get8 r = s.get8 r
  sp : op ≠ 0x31 → t.sp = s.sp

theorem get8_withCycles (s : State) (n : Nat) (r : Reg8) : ({ s with cycles := n } : State).get8 r = s.get8 r := by
  cases r <;> rfl

section
variable {op e : Byte} {s t : State}

/-- A register that the table does not name is another than one it names. -/
theorem ne_of_writesReg {r q : Reg8} (hr : writesReg op e r = true) (hq : writesReg op e q = false) : q ≠ r := by
  rintro rfl
  exact ne_true_of_eq_false hq hr

/-- A jump changes PC alone. -/
theorem ChangesByTable.ofJump (hop : jumpByte op = true) (hflags : t.flags = s.flags)
    (hregs : ∀ r, t.get8 r = s.get8 r) (hsp : t.sp = s.sp) : ChangesByTable op e s t :=
  ⟨fun hn => absurd hop (ne_true_of_eq_false hn), fun _ => hflags, fun _ => hflags ▸ rfl, fun r _ => hregs r,
    fun _ => hsp⟩

/-- An instruction that writes registers of the table and no flag. -/
theorem ChangesByTable.ofRegs (hpc : t.pc = s.pc) (hflags : t.flags = s.flags)
    (hregs : ∀ r, writesReg op e r = false → t.get8 r = s.get8 r) (hsp : t.sp = s.sp) : ChangesByTable op e s t :=
  ⟨fun _ => hpc, fun _ => hflags, fun _ => hflags ▸ rfl, hregs, fun _ => hsp⟩

/-- An instruction that changes no register and no flag. -/
theorem ChangesByTable.ofMemory (hpc : t.pc = s.pc) (hflags : t.flags = s.flags) (hregs : ∀ r, t.get8 r = s.get8 r)
    (hsp : t.sp = s.sp) : ChangesByTable op e s t :=
  .ofRegs hpc hflags (fun r _ => hregs r) hsp

/-- An instruction that writes flags of the table. -/
theorem ChangesByTable.ofFlags (hpc : t.pc = s.pc) (hop : writesFlags op e = true)
    (hcarry : writesCarry op e = true ∨ t.flags.c = s.flags.c)
    (hregs : ∀ r, writesReg op e r = false → t.get8 r = s.get8 r) (hsp : t.sp = s.sp) : ChangesByTable op e s t :=
  ⟨fun _ => hpc, fun hn => absurd hop (ne_true_of_eq_false hn),
    fun hn => hcarry.resolve_left (ne_true_of_eq_false hn), hregs, fun _ => hsp⟩

end

/-! ### The jumps without their branch -/

theorem jumpCond_eq (cc : Cond) (a16 : Word) (s : State) : jumpCond cc a16 s =
    finish (if condHolds cc s.flags then 16 else 12) (s.setPc (if condHolds cc s.flags then a16 else s.pc)) := by
  unfold jumpCond
  split <;> rfl

theorem jumpRelCond_eq (cc : Cond) (r8 : Byte) (s : State) : jumpRelCond cc r8 s =
    finish (if condHolds cc s.flags then 12 else 8)
      (s.setPc (if condHolds cc s.flags then s.pc + sext16 r8 else s.pc)) := by
  unfold jumpRelCond
  split <;> rfl

/-! ### The extended table -/

/-- The operations of the extended table are of three kinds, told apart by their row. -/
theorem extendedOp_kinds (o : ExtOp) :
    (o.row < 8 ∧ ∃ f, ∀ z s, extendedOp o z s = rotShift f z s) ∨ (∃ n, o = .bit n) ∨
    (16 ≤ o.row ∧ ∃ f, ∀ z s, extendedOp o z s = modifyOperand f z s) := by
  cases o with
  | bit n => exact .inr (.inl ⟨n, rfl⟩)
  | res n => exact .inr (.inr ⟨Nat.le_add_right 16 n, _, fun _ _ => rfl⟩)
  | set n => exact .inr (.inr ⟨(by decide : 16 ≤ 24).trans (Nat.le_add_right 24 n), _, fun _ _ => rfl⟩)
  | rlc => exact .inl ⟨by decide, Machine.rlc, fun _ _ => rfl⟩
  | rrc => exact .inl ⟨by decide, Machine.rrc, fun _ _ => rfl⟩
  | rl => exact .inl ⟨by decide, Machine.rl, fun _ _ => rfl⟩
  | rr => exact .inl ⟨by decide, Machine.rr, fun _ _ => rfl⟩
  | sla => exact .inl ⟨by decide, Machine.sla, fun _ _ => rfl⟩
  | sra => exact .inl ⟨by decide, Machine.sra, fun _ _ => rfl⟩
  | swap => exact .inl ⟨by decide, Machine.swapNibbles, fun _ _ => rfl⟩
  | srl => exact .inl ⟨by decide, Machine.srl, fun _ _ => rfl⟩

theorem writesFlags_extByte (o : ExtOp) (z : Operand) (ho : o.row < 16) : writesFlags 0xCB (extByte o z) = true := by
  have hfield := z.field_lt
  refine decide_eq_true ?_
  rw [extByte_toNat]
  omega

theorem writesCarry_extByte (o : ExtOp) (z : Operand) (ho : o.row < 8) : writesCarry 0xCB (extByte o z) = true := by
  have hfield := z.field_lt
  refine decide_eq_true ?_
  rw [extByte_toNat]
  omega

theorem writesReg_prefix (e : Byte) (r : Reg8) : writesReg 0xCB e r =
    ((e.toNat % 8 == fieldOfReg r) && !(decide (0x40 ≤ e.toNat) && decide (e.toNat < 0x80))) := by
  cases r <;> simp [writesReg]

/-- An operation of the extended table that is no `BIT` writes its operand. -/
theorem writesReg_extByte (o : ExtOp) (r : Reg8) (ho : o.row < 8 ∨ 16 ≤ o.row) :
    writesReg 0xCB (extByte o (.reg r)) r = true := by
  have hfield : fieldOfReg r < 8 := (Operand.reg r).field_lt
  have hmod : (8 * o.row + fieldOfReg r) % 8 = fieldOfReg r := by omega
  have hgroup : ¬ (0x40 ≤ 8 * o.row + fieldOfReg r ∧ 8 * o.row + fieldOfReg r < 0x80) := by omega
  rw [writesReg_prefix, extByte_toNat, Operand.field, hmod, beq_self_eq_true, Bool.true_and, ← Bool.decide_and,
    decide_eq_false hgroup, Bool.not_false]

section
variable {s t : State}

theorem rotShift_changes (f : RotShift) (o : ExtOp) (ho : o.row < 8) (z : Operand) (h : rotShift f z s = .next t) :
    ChangesByTable 0xCB (extByte o z) s t := by
  have hflags := writesFlags_extByte o z (by omega)
  have hcarry := writesCarry_extByte o z ho
  cases z with
  | reg r =>
    cases h
    have hr := writesReg_extByte o r (.inl ho)
    exact .ofFlags (by simp) hflags (.inl hcarry) (fun q hq => get8_set8_other s r q _ (ne_of_writesReg hr hq))
      (by simp)
  | mem =>
    cases h
    exact .ofFlags rfl hflags (.inl hcarry)
      (fun q _ => by simp only [get8_withCycles, get8_setFlags, writeOperand_mem, get8_memWrite, get8_logAccess]) rfl

theorem bitTest_changes (n : Fin 8) (z : Operand) (h : bitTest n z s = .next t) :
    ChangesByTable 0xCB (extByte (.bit n) z) s t := by
  have hflags := writesFlags_extByte (.bit n) z (by simp only [ExtOp.row]; omega)
  cases z with
  | reg r => cases h; exact .ofFlags rfl hflags (.inr rfl) (fun q _ => by cases q <;> rfl) rfl
  | mem => cases h; exact .ofFlags rfl hflags (.inr rfl) (fun q _ => by cases q <;> rfl) rfl

theorem modifyOperand_changes (f : Byte → Byte) (o : ExtOp) (ho : 16 ≤ o.row) (z : Operand)
    (h : modifyOperand f z s = .next t) : ChangesByTable 0xCB (extByte o z) s t := by
  cases z with
  | reg r =>
    cases h
    have hr := writesReg_extByte o r (.inr ho)
    exact .ofRegs (by simp) (by simp) (fun q hq => get8_set8_other s r q _ (ne_of_writesReg hr hq)) (by simp)
  | mem =>
    cases h
    exact .ofMemory rfl rfl
      (fun q => by simp only [get8_withCycles, writeOperand_mem, get8_memWrite, get8_logAccess]) rfl

theorem extendedOp_changes (o : ExtOp) (z : Operand) (h : extendedOp o z s = .next t) :
    ChangesByTable 0xCB (extByte o z) s t := by
  obtain ⟨ho, f, hf⟩ | ⟨n, rfl⟩ | ⟨ho, f, hf⟩ := extendedOp_kinds o
  · exact rotShift_changes f o ho z (hf z s ▸ h)
  · exact bitTest_changes n z h
  · exact modifyOperand_changes f o ho z (hf z s ▸ h)

/-! ### Every instruction -/

/-- A load of a register writes the register its opcode names. -/
theorem loadReg_changes (r : Reg8) (v : Byte) {op e : Byte} (hr : writesReg op e r = true)
    (h : loadReg r v s = .next t) : ChangesByTable op e s t := by
  cases h
  exact .ofRegs (by simp) (by simp) (fun q hq => get8_set8_other s r q v (ne_of_writesReg hr hq)) (by simp)

theorem decReg_changes (r : Reg8) {op e : Byte} (hf : writesFlags op e = true) (hr : writesReg op e r = true)
    (h : decReg r s = .next t) : ChangesByTable op e s t := by
  cases h
  exact .ofFlags (by simp) hf (.inr rfl) (fun q hq => get8_set8_other s r q _ (ne_of_writesReg hr hq)) (by simp)

/-- What any instruction may change, by the first two of the bytes that encode it. -/
theorem exec_changes (i : Instr) (op e b : Byte) (henc : encode i <+: [op, e, b]) (h : exec i s = .next t) :
    ChangesByTable op e s t := by
  revert henc h
  induction i using Instr.byFamily with
  | nop | stBC | stDE | stHL | stIoC =>
    intro _ h
    cases h
    exact .ofMemory rfl rfl (fun q => by cases q <;> rfl) rfl
  | ldhStore a8 => intro _ h; cases h; exact .ofMemory rfl rfl (fun q => by cases q <;> rfl) rfl
  | jp a16 =>
    intro henc h
    obtain ⟨rfl, -⟩ := List.cons_prefix_cons.mp henc
    cases h
    exact .ofJump rfl rfl (fun q => by cases q <;> rfl) rfl
  | jpcc cc a16 =>
    intro henc h
    have hop : jumpByte op = true := by
      cases cc <;> obtain ⟨rfl, -⟩ := List.cons_prefix_cons.mp henc <;> rfl
    rw [exec_jpOf, jumpCond_eq] at h
    cases h
    exact .ofJump hop rfl (fun q => by cases q <;> rfl) rfl
  | jrcc cc r8 =>
    intro henc h
    have hop : jumpByte op = true := by
      cases cc <;> obtain ⟨rfl, -⟩ := List.cons_prefix_cons.mp henc <;> rfl
    rw [exec_jrOf, jumpRelCond_eq] at h
    cases h
    exact .ofJump hop rfl (fun q => by cases q <;> rfl) rfl
  | ldPair p v =>
    intro henc h
    rw [exec_ldPairOf] at h
    cases p with
    | sp =>
      obtain ⟨rfl, -⟩ := List.cons_prefix_cons.mp henc
      cases h
      exact ⟨fun _ => rfl, fun _ => rfl, fun _ => rfl, fun q _ => by cases q <;> rfl, fun hne => absurd rfl hne⟩
    | bc | de | hl =>
      obtain ⟨rfl, -⟩ := List.cons_prefix_cons.mp henc
      cases h
      exact .ofRegs rfl rfl (fun q hq => by cases q <;> first | rfl | cases hq) rfl
  | stHLInc | stHLDec | ldIoC =>
    intro henc h
    obtain ⟨rfl, -⟩ := List.cons_prefix_cons.mp henc
    cases h
    exact .ofRegs rfl rfl (fun q hq => by cases q <;> first | rfl | cases hq) rfl
  | ldReg r v =>
    intro henc h
    rw [exec_ldRegOf] at h
    have hr : writesReg op e r = true := by
      cases r <;> obtain ⟨rfl, -⟩ := List.cons_prefix_cons.mp henc <;> simp [writesReg]
    exact loadReg_changes r v hr h
  | ldhLoad a8 =>
    intro henc h
    obtain ⟨rfl, -⟩ := List.cons_prefix_cons.mp henc
    cases h
    exact .ofRegs rfl rfl (fun q hq => by cases q <;> first | rfl | cases hq) rfl
  | xorA =>
    intro henc h
    obtain ⟨rfl, -⟩ := List.cons_prefix_cons.mp henc
    cases h
    exact .ofFlags rfl rfl (.inl rfl) (fun q hq => by cases q <;> first | rfl | cases hq) rfl
  | dec r =>
    intro henc h
    rw [exec_decOf] at h
    have hop : writesFlags op e = true ∧ writesReg op e r = true := by
      cases r <;> obtain ⟨rfl, -⟩ := List.cons_prefix_cons.mp henc <;> simp [writesFlags, decByte, writesReg]
    exact decReg_changes r hop.1 hop.2 h
  | cp d8 =>
    intro henc h
    obtain ⟨rfl, -⟩ := List.cons_prefix_cons.mp henc
    cases h
    exact .ofFlags rfl rfl (.inl rfl) (fun q _ => by cases q <;> rfl) rfl
  | prefixCB e' =>
    intro henc h
    obtain ⟨rfl, htail⟩ := List.cons_prefix_cons.mp henc
    obtain ⟨rfl, -⟩ := List.cons_prefix_cons.mp htail
    exact extByte_of_fields e' ▸ extendedOp_changes _ _ h
  | ext o z =>
    intro henc h
    rw [encode_extOf] at henc
    obtain ⟨rfl, htail⟩ := List.cons_prefix_cons.mp henc
    obtain ⟨rfl, -⟩ := List.cons_prefix_cons.mp htail
    exact extendedOp_changes o z (exec_extOf o z s ▸ h)

/-- A step changes what the tables give the bytes at PC, behind the fetch. -/
theorem step_changes (h : step s = .next t) : ∃ shape, primary (s.peek s.pc) = some shape ∧
    ChangesByTable (s.peek s.pc) (s.peek (s.pc + 1)) (s.afterFetch shape.length) t := by
  obtain ⟨shape, hf, hi⟩ := step_next_fetches s t h
  exact ⟨shape, hf.row, exec_changes _ _ _ _ hf.encode_prefix hi⟩

end

/-- Settles O56: the meaning of anything but a jump keeps PC where the fetch left it. -/
theorem onlyJumpsLeaveTheSequence : Obligations.OnlyJumpsLeaveTheSequence := by
  intro s t n h hjump hn
  obtain ⟨shape, hp, hc⟩ := step_changes h
  rw [hp] at hn
  cases hn
  exact hc.pc hjump

/-- Settles O57: a fetch changes no flag, and a meaning those of its table. -/
theorem flagsChangeOnlyByTheTable : Obligations.FlagsChangeOnlyByTheTable := by
  intro s t h
  obtain ⟨shape, -, hc⟩ := step_changes h
  exact ⟨hc.flags, hc.carry⟩

/-- Settles O58: a fetch changes neither a register of the table nor SP, and a meaning those of its table. -/
theorem registersChangeOnlyByTheTable : Obligations.RegistersChangeOnlyByTheTable := by
  intro s t h
  obtain ⟨shape, -, hc⟩ := step_changes h
  have hfetch : ∀ r, (s.afterFetch shape.length).get8 r = s.get8 r := fun r => by cases r <;> rfl
  exact ⟨fun r hr => (hc.regs r hr).trans (hfetch r), hc.sp⟩

end Sys2Proof.Machine
end

section
/-! What no instruction reads: N and H (spec/10_state.md R38), SP (R29) and the outputs of the step before
(spec/70_reset_and_hazards.md R235). -/

namespace Sys2Proof.Machine

/-! ### The cycle count -/

theorem extendedOp_withCycles (o : ExtOp) (z : Operand) (s : State) (n : Nat) :
    extendedOp o z { s with cycles := n } = extendedOp o z s := by
  obtain ⟨-, f, hf⟩ | ⟨n, rfl⟩ | ⟨-, f, hf⟩ := extendedOp_kinds o
  · rw [hf, hf]
    cases z with
    | reg r => cases r <;> rfl
    | mem => rfl
  · cases z <;> rfl
  · rw [hf, hf]
    cases z with
    | reg r => cases r <;> rfl
    | mem => rfl

/-- An instruction overwrites the cycle count and does not read it. -/
theorem exec_withCycles (i : Instr) (s : State) (n : Nat) : exec i { s with cycles := n } = exec i s := by
  induction i using Instr.byFamily with
  | jpcc cc a16 => rw [exec_jpOf, exec_jpOf, jumpCond_eq, jumpCond_eq]; rfl
  | jrcc cc r8 => rw [exec_jrOf, exec_jrOf, jumpRelCond_eq, jumpRelCond_eq]; rfl
  | ldPair p v => cases p <;> rfl
  | ldReg r v => cases r <;> rfl
  | dec r => cases r <;> rfl
  | prefixCB e => exact extendedOp_withCycles _ _ s n
  | ext o z => rw [exec_extOf, exec_extOf]; exact extendedOp_withCycles o z s n
  | _ => rfl

/-! ### SP -/

theorem extendedOp_withSp (o : ExtOp) (z : Operand) (s t : State) (x : Word) (h : extendedOp o z s = .next t) :
    extendedOp o z { s with sp := x } = .next { t with sp := x } := by
  obtain ⟨-, f, hf⟩ | ⟨n, rfl⟩ | ⟨-, f, hf⟩ := extendedOp_kinds o
  · rw [hf] at h ⊢
    cases h
    cases z with
    | reg r => cases r <;> rfl
    | mem => rfl
  · cases h
    cases z <;> rfl
  · rw [hf] at h ⊢
    cases h
    cases z with
    | reg r => cases r <;> rfl
    | mem => rfl

/-- An instruction other than `LD SP,d16` neither reads nor writes SP. -/
theorem exec_withSp (i : Instr) (s t : State) (x : Word) (hi : ∀ v, i ≠ .ldSP v) (h : exec i s = .next t) :
    exec i { s with sp := x } = .next { t with sp := x } := by
  revert hi h
  induction i using Instr.byFamily with
  | jpcc cc a16 => intro _ h; rw [exec_jpOf, jumpCond_eq] at h ⊢; cases h; rfl
  | jrcc cc r8 => intro _ h; rw [exec_jrOf, jumpRelCond_eq] at h ⊢; cases h; rfl
  | ldPair p v =>
    intro hi h
    cases p with
    | sp => exact absurd rfl (hi v)
    | bc | de | hl => cases h; rfl
  | ldReg r v => intro _ h; cases r <;> cases h <;> rfl
  | dec r => intro _ h; cases r <;> cases h <;> rfl
  | prefixCB e => intro _ h; exact extendedOp_withSp _ _ s t x h
  | ext o z => intro _ h; rw [exec_extOf] at h ⊢; exact extendedOp_withSp o z s t x h
  | _ => intro _ h; cases h; rfl

/-! ### N and H -/

/-- The state with other values of N and H. -/
def State.withNH (s : State) (n h : Bool) : State := { s with flags := { s.flags with n := n, h := h } }

/-- The meaning `m` does not read N and H: from states that differ in them alone it answers states that differ at most
in them. -/
def IgnoresNH (m : State → Result) : Prop :=
  ∀ s t n h, m s = .next t → ∃ n' h', m (s.withNH n h) = .next (t.withNH n' h')

theorem rotShift_ignoresNH (f : RotShift) (z : Operand) : IgnoresNH (rotShift f z) := by
  intro s t n h hm
  cases hm
  cases z with
  | reg r => exact ⟨false, false, by cases r <;> rfl⟩
  | mem => exact ⟨false, false, rfl⟩

theorem bitTest_ignoresNH (n : Fin 8) (z : Operand) : IgnoresNH (bitTest n z) := by
  intro s t n h hm
  cases hm
  cases z with
  | reg r => exact ⟨false, true, by cases r <;> rfl⟩
  | mem => exact ⟨false, true, rfl⟩

theorem modifyOperand_ignoresNH (f : Byte → Byte) (z : Operand) : IgnoresNH (modifyOperand f z) := by
  intro s t n h hm
  cases hm
  cases z with
  | reg r => exact ⟨n, h, by cases r <;> rfl⟩
  | mem => exact ⟨n, h, rfl⟩

theorem extendedOp_ignoresNH (o : ExtOp) (z : Operand) : IgnoresNH (extendedOp o z) := by
  obtain ⟨-, f, hf⟩ | ⟨n, rfl⟩ | ⟨-, f, hf⟩ := extendedOp_kinds o
  · rw [funext (hf z)]; exact rotShift_ignoresNH f z
  · exact bitTest_ignoresNH n z
  · rw [funext (hf z)]; exact modifyOperand_ignoresNH f z

/-- No condition, no result and no other flag depends on N or H. -/
theorem exec_ignoresNH (i : Instr) : IgnoresNH (exec i) := by
  intro s t n h
  induction i using Instr.byFamily with
  | jpcc cc a16 =>
    intro hm
    rw [exec_jpOf, jumpCond_eq] at hm
    cases hm
    exact ⟨n, h, by rw [exec_jpOf, jumpCond_eq]; cases cc <;> rfl⟩
  | jrcc cc r8 =>
    intro hm
    rw [exec_jrOf, jumpRelCond_eq] at hm
    cases hm
    exact ⟨n, h, by rw [exec_jrOf, jumpRelCond_eq]; cases cc <;> rfl⟩
  | ldPair p v => intro hm; cases p <;> cases hm <;> exact ⟨n, h, rfl⟩
  | ldReg r v => intro hm; cases r <;> cases hm <;> exact ⟨n, h, rfl⟩
  | dec r =>
    intro hm
    rw [exec_decOf] at hm
    cases hm
    exact ⟨true, (sub8 (s.get8 r) 1).half, by cases r <;> rfl⟩
  | cp d8 => intro hm; cases hm; exact ⟨true, (sub8 s.a d8).half, rfl⟩
  | xorA => intro hm; cases hm; exact ⟨false, false, rfl⟩
  | prefixCB e => exact extendedOp_ignoresNH _ _ s t n h
  | ext o z => rw [funext (exec_extOf o z)]; exact extendedOp_ignoresNH o z s t n h
  | _ => intro hm; cases hm; exact ⟨n, h, rfl⟩

/-! ### The step -/

/-- Settles O59: both states fetch the same instruction or fault, and its meaning ignores N and H. -/
theorem noStepReadsNOrH : Obligations.NoStepReadsNOrH := by
  intro s n h
  have hsame : SameFetch s (s.withNH n h) := ⟨rfl, rfl, rfl⟩
  refine ⟨fun t ht => ?_, fun r hr => step_fault_fetchFaults s r hr _ hsame⟩
  obtain ⟨shape, hf, hi⟩ := step_next_fetches s t ht
  obtain ⟨n', h', hi'⟩ := exec_ignoresNH _ _ _ n h hi
  exact ⟨n', h', (hf.runs _ hsame).trans hi'⟩

/-- `LD SP,d16` is the instruction of the opcode byte 0x31 and of no other. -/
theorem Fetches.loads_sp_iff {s : State} {shape : Shape} (h : Fetches s shape) :
    s.peek s.pc = 0x31 ↔ ∃ v, s.instrAtPc shape = .ldSP v := by
  constructor
  · intro hop
    have hrow : primary 0x31 = some shape := hop ▸ h.row
    cases hrow
    exact ⟨_, rfl⟩
  · rintro ⟨v, hv⟩
    have hpre := h.encode_prefix
    rw [hv] at hpre
    exact (List.cons_prefix_cons.mp hpre).1.symm

theorem step_withSp (s t : State) (x : Word) (h : step s = .next t) :
    step { s with sp := x } = .next { t with sp := if s.peek s.pc = 0x31 then t.sp else x } := by
  obtain ⟨shape, hf, hi⟩ := step_next_fetches s t h
  refine (hf.runs { s with sp := x } ⟨rfl, rfl, rfl⟩).trans ?_
  by_cases hop : s.peek s.pc = 0x31
  · obtain ⟨v, hv⟩ := hf.loads_sp_iff.mp hop
    rw [if_pos hop]
    rw [hv] at hi ⊢
    exact hi
  · rw [if_neg hop]
    exact exec_withSp _ _ t x (fun v hv => hop (hf.loads_sp_iff.mpr ⟨v, hv⟩)) hi

/-- A step starts its record of accesses anew and overwrites the cycle count. -/
theorem step_withOutputs (s : State) (n : Nat) (log : List Access) :
    step { s with cycles := n, accesses := log } = step s := by
  have hsame : SameFetch s { s with cycles := n, accesses := log } := ⟨rfl, rfl, rfl⟩
  obtain ⟨shape, hf⟩ | ⟨r, hr⟩ := fetches_or_faults s
  · rw [hf.runs _ hsame, hf.runs s (.refl s)]
    exact exec_withCycles _ (s.afterFetch shape.length) n
  · rw [hr _ hsame, hr s (.refl s)]

/-- Settles O60: both states fetch the same instruction or fault, and of the meanings only `LD SP,d16` touches SP. -/
theorem noStepReadsSpOrTheLastOutput : Obligations.NoStepReadsSpOrTheLastOutput :=
  ⟨fun s x => ⟨fun t h => step_withSp s t x h, fun r h => step_fault_fetchFaults s r h _ ⟨rfl, rfl, rfl⟩⟩,
    step_withOutputs⟩

end Sys2Proof.Machine
end

section
/-! The regions of the Memory Map by their bounds, and what stands behind an address of each. -/

namespace Sys2Proof

/-- The lowest address of a region (spec/20_memory.md R62). -/
def Region.first : Region → Nat
  | .rom => 0x0000
  | .vram => 0x8000
  | .xram => 0xA000
  | .wram => 0xC000
  | .echo => 0xE000
  | .oam => 0xFE00
  | .unusable => 0xFEA0
  | .io => 0xFF00
  | .hram => 0xFF80
  | .ie => 0xFFFF

/-- The highest address of a region (spec/20_memory.md R62). -/
def Region.last : Region → Nat
  | .rom => 0x7FFF
  | .vram => 0x9FFF
  | .xram => 0xBFFF
  | .wram => 0xDFFF
  | .echo => 0xFDFF
  | .oam => 0xFE9F
  | .unusable => 0xFEFF
  | .io => 0xFF7F
  | .hram => 0xFFFE
  | .ie => 0xFFFF

/-- Regions do not overlap. -/
theorem Region.eq_of_bounds (q r : Region) (n : Nat) (hq : q.first ≤ n ∧ n ≤ q.last)
    (hr : r.first ≤ n ∧ n ≤ r.last) : q = r := by
  have hdisjoint : ∀ q r : Region, q.first ≤ r.last → r.first ≤ q.last → q = r := by
    intro q r
    cases q <;> cases r <;> decide
  exact hdisjoint q r (by omega) (by omega)

end Sys2Proof

namespace Sys2Proof.Machine

theorem regionOf_bounds (a : Word) : (regionOf a).first ≤ a.toNat ∧ a.toNat ≤ (regionOf a).last := by
  unfold regionOf
  repeat' split
  all_goals simp only [Region.first, Region.last]; omega

theorem regionOf_eq_iff (a : Word) (r : Region) : regionOf a = r ↔ r.first ≤ a.toNat ∧ a.toNat ≤ r.last :=
  ⟨fun h => h ▸ regionOf_bounds a, Region.eq_of_bounds _ _ _ (regionOf_bounds a)⟩

/-- A location of a region that is inert under the backing is inert. -/
theorem mapSlot_of_regionInert (b : Backing) (a : Word) (h : regionInert b (regionOf a) = true) :
    mapSlot b a = .inert := by
  unfold mapSlot
  revert h
  cases regionOf a <;> intro h
  case rom => cases h
  case unusable => rfl
  case echo => simp only [eq_of_beq h]
  all_goals exact congrArg (storeSlot · a) (eq_of_beq h)

/-- A location of a region that is RAM-backed is a cell of its own. -/
theorem mapSlot_of_regionRam (b : Backing) (a : Word) (h : regionRam b (regionOf a) = true) :
    mapSlot b a = .cell a := by
  unfold mapSlot
  revert h
  cases regionOf a <;> intro h
  case rom | echo | unusable => cases h
  all_goals exact congrArg (storeSlot · a) (eq_of_beq h)

/-- A location of ECHO that mirrors a RAM-backed WRAM is the cell 0x2000 below. -/
theorem mapSlot_echo (b : Backing) (a : Word) (he : b.echo = .echo) (hw : b.wram = .ram) (hr : regionOf a = .echo) :
    mapSlot b a = .cell (a - 0x2000) := by
  simp only [mapSlot, hr, he, hw, storeSlot]

/-- A cell of the Memory Map lies at the address itself or, for ECHO, 0x2000 below. -/
theorem mapSlot_cell_address (b : Backing) (a x : Word) (h : mapSlot b a = .cell x) : x = a ∨ x = a - 0x2000 := by
  unfold mapSlot at h
  revert h
  cases regionOf a <;> intro h
  case rom | unusable => cases h
  case echo =>
    revert h
    cases b.echo <;> intro h
    case inert => cases h
    case echo => exact .inr (storeSlot_cell _ _ _ h)
  all_goals exact .inl (storeSlot_cell _ _ _ h)

theorem slotOf_map (p : Platform) (b : Backing) (a : Word) (hp : p.space = .map b) : slotOf p a = mapSlot b a := by
  simp only [slotOf, hp]

theorem slotOf_flat (p : Platform) (a : Word) (hp : p.space = .flat) : slotOf p a = .cell a := by
  simp only [slotOf, hp]

theorem slotOf_cell_address (p : Platform) (a x : Word) (h : slotOf p a = .cell x) : x = a ∨ x = a - 0x2000 := by
  cases hp : p.space with
  | flat =>
    rw [slotOf_flat p a hp] at h
    cases h
    exact .inl rfl
  | map b => exact mapSlot_cell_address b a x (slotOf_map p b a hp ▸ h)

/-- Two neighbouring addresses never share a cell: the mirror is 0x2000 away. -/
theorem slotOf_succ_ne (s : State) (a : Word) (h : Stores s a) : slotOf s.platform a ≠ slotOf s.platform (a + 1) := by
  obtain ⟨x, hx⟩ := h
  intro heq
  have hlow := slotOf_cell_address _ _ _ hx
  have hhigh := slotOf_cell_address _ _ _ (heq ▸ hx)
  bv_omega

/-- In the source's map a location outside ROM is inert. -/
theorem mapSlot_allInert (a : Word) (h : ¬ a.toNat ≤ 0x7FFF) : mapSlot Backing.allInert a = .inert := by
  have hrom : regionOf a ≠ .rom := fun hr => h (regionOf_rom a hr)
  refine mapSlot_of_regionInert _ a ?_
  cases hr : regionOf a
  case rom => exact absurd hr hrom
  all_goals rfl

/-- Settles O9: the bounds are `regionOf_eq_iff`, and in the source's map ROM is the one region that is not inert. -/
theorem regionsByTheirBounds : Obligations.RegionsByTheirBounds := by
  refine ⟨fun a r lo hi size hmem => ?bounds, fun a => ?source, fun b a h => ?unusable⟩
  case bounds =>
    have hrow : lo = r.first ∧ hi = r.last ∧ hi + 1 = lo + size := by
      simp only [List.mem_cons, Prod.mk.injEq, List.not_mem_nil, or_false] at hmem
      obtain ⟨rfl, rfl, rfl, rfl⟩ | ⟨rfl, rfl, rfl, rfl⟩ | ⟨rfl, rfl, rfl, rfl⟩ | ⟨rfl, rfl, rfl, rfl⟩ |
        ⟨rfl, rfl, rfl, rfl⟩ | ⟨rfl, rfl, rfl, rfl⟩ | ⟨rfl, rfl, rfl, rfl⟩ | ⟨rfl, rfl, rfl, rfl⟩ |
        ⟨rfl, rfl, rfl, rfl⟩ | ⟨rfl, rfl, rfl, rfl⟩ := hmem
      all_goals exact ⟨rfl, rfl, rfl⟩
    obtain ⟨rfl, rfl, hsize⟩ := hrow
    exact ⟨regionOf_eq_iff a r, hsize⟩
  case source =>
    split
    · next h => exact mapSlot_rom _ a h
    · next h => exact mapSlot_allInert a h
  case unusable => exact mapSlot_of_regionInert a b (h ▸ rfl)

end Sys2Proof.Machine
end

section
/-! The Address Space as byte cells: what a byte read and a byte write do at each kind of location, and the word accesses
made of them. -/

namespace Sys2Proof.Machine

/-- Two addresses of one location read alike. -/
theorem peek_eq_of_slotOf_eq (s : State) (a q : Word) (h : slotOf s.platform a = slotOf s.platform q) :
    s.peek a = s.peek q := by
  simp only [State.peek, h]

/-- A byte stored at one address is read at every address of the location. -/
theorem peek_memWrite_of_slotOf_eq (s : State) (a x : Word) (v : Byte) (hx : Stores s x)
    (h : slotOf s.platform a = slotOf s.platform x) : (s.memWrite x v).peek a = v :=
  (peek_eq_of_slotOf_eq (s.memWrite x v) a x h).trans (peek_memWrite_stores s x v hx)

/-- The next fetch of a location that stores reads the last write to it (spec/20_memory.md R72). -/
theorem fetch8_after_memWrite (s : State) (a : Word) (v : Byte) (h : Stores s a) :
    (fetch8 ((s.memWrite a v).setPc a)).1 = v :=
  peek_memWrite_stores s a v h

theorem memReadWord_eq (s : State) (k : AccessKind) (a : Word) :
    s.memReadWord k a = (bytesToWord (s.peek (a + 1)) (s.peek a),
      (s.logAccess k a (s.peek a)).logAccess k (a + 1) (s.peek (a + 1))) := rfl

/-- Settles O7: the word is that of the two bytes, and each read adds its own record. -/
theorem wordReadIsTwoByteReads : Obligations.WordReadIsTwoByteReads := by
  intro s k a
  rw [memReadWord_eq]
  refine ⟨?_, ?_, fun h => h ▸ rfl⟩
  · rw [bytesToWord_toNat]
    omega
  · simp [State.logAccess]

section
variable (s : State) (a v : Word)

theorem peek_memWriteWord_low (h : Stores s a) : (s.memWriteWord a v).peek a = (wordToBytes v).2 :=
  (memWrite_others (s.memWrite a _) (a + 1) _ a (slotOf_succ_ne s a h)).trans (peek_memWrite_stores s a _ h)

theorem peek_memWriteWord_high (h : Stores s (a + 1)) : (s.memWriteWord a v).peek (a + 1) = (wordToBytes v).1 :=
  peek_memWrite_stores (s.memWrite a _) (a + 1) _ h

theorem peek_memWriteWord_other (q : Word) (hlow : slotOf s.platform q ≠ slotOf s.platform a)
    (hhigh : slotOf s.platform q ≠ slotOf s.platform (a + 1)) : (s.memWriteWord a v).peek q = s.peek q :=
  (memWrite_others (s.memWrite a _) (a + 1) _ q hhigh).trans (memWrite_others s a _ q hlow)

end

/-- Settles O8: the two halves are written at two different locations. -/
theorem writtenWordReadsBack : Obligations.WrittenWordReadsBack := by
  intro s k a v hlow hhigh
  rw [memReadWord_eq, peek_memWriteWord_low s a v hlow, peek_memWriteWord_high s a v hhigh]
  exact ⟨bytesToWord_wordToBytes v, wordToBytes_snd_toNat v, wordToBytes_fst_toNat v, peek_memWriteWord_other s a v⟩

/-- Settles O10: what stands behind an address of an inert region is no cell. -/
theorem inertLocationsReadTheDefault : Obligations.InertLocationsReadTheDefault := by
  refine ⟨fun s b a v hspace hinert => ?_, fun b => ⟨rfl, rfl⟩⟩
  have hslot : slotOf s.platform a = .inert :=
    (slotOf_map _ b a hspace).trans (mapSlot_of_regionInert b a hinert)
  have hdiscards : ¬ Stores s a := fun ⟨x, hx⟩ => by cases hslot.symm.trans hx
  exact ⟨peek_of_inert s a hslot, memWrite_discarded s a v hdiscards⟩

/-- Settles O11: a RAM-backed location is the cell of its own address. -/
theorem ramLocationsKeepTheLastWrite : Obligations.RamLocationsKeepTheLastWrite := by
  intro s b a hspace hram
  have hslot : slotOf s.platform a = .cell a := (slotOf_map _ b a hspace).trans (mapSlot_of_regionRam b a hram)
  have hstores : Stores s a := ⟨a, hslot⟩
  refine ⟨fun v => ⟨?_, memWrite_others s a v, fetch8_after_memWrite s a v hstores⟩, fun hnone => ?_, fun q v hq => ?_⟩
  · exact peek_memWrite_stores s a v hstores
  · rw [peek_of_cell s a a hslot, Memory.byteAt, hnone, Option.getD_none]
  · exact memWrite_others s q v a hq.symm

/-- Settles O12: on FlatRAM every address is the cell of its own. -/
theorem flatRamCellsAreIndependent : Obligations.FlatRamCellsAreIndependent := by
  intro s a q v hflat
  have hslot : ∀ x, slotOf s.platform x = .cell x := fun x => slotOf_flat _ x hflat
  have hstores : Stores s a := ⟨a, hslot a⟩
  refine ⟨peek_memWrite_stores s a v hstores, fun hqa => memWrite_others s a v q ?_, peek_of_cell s a a (hslot a),
    fetch8_after_memWrite s a v hstores⟩
  rw [hslot, hslot]
  exact fun heq => hqa (Slot.cell.inj heq)

theorem legalPlatform_map_iff (b : Backing) (u : Byte) (cb : CbRotShift) :
    legalPlatform { space := .map b, unattachedRead := u, cbRotShift := cb } = true ↔
      (b.echo = .echo → b.wram = .ram) := by
  unfold legalPlatform
  cases he : b.echo <;> simp [he]

/-- Settles O13: an ECHO address and the WRAM address 0x2000 below reach one cell. -/
theorem echoMirrorsWorkRam : Obligations.EchoMirrorsWorkRam := by
  refine ⟨fun s b a v hspace he hw hlo hhi => ?_, legalPlatform_map_iff⟩
  have hregion : regionOf a = .echo := (regionOf_eq_iff a .echo).mpr ⟨hlo, hhi⟩
  have hwram : regionOf (a - 0x2000) = .wram := by
    refine (regionOf_eq_iff _ .wram).mpr ?_
    simp only [Region.first, Region.last]
    bv_omega
  have hecho : slotOf s.platform a = .cell (a - 0x2000) :=
    (slotOf_map _ b a hspace).trans (mapSlot_echo b a he hw hregion)
  have hcell : slotOf s.platform (a - 0x2000) = .cell (a - 0x2000) := by
    refine (slotOf_map _ b _ hspace).trans (mapSlot_of_regionRam b _ ?_)
    rw [hwram]
    exact beq_iff_eq.mpr hw
  have hsame : slotOf s.platform a = slotOf s.platform (a - 0x2000) := hecho.trans hcell.symm
  exact ⟨peek_eq_of_slotOf_eq s _ _ hsame, peek_memWrite_of_slotOf_eq s _ a v ⟨_, hecho⟩ hsame.symm,
    peek_memWrite_of_slotOf_eq s a _ v ⟨_, hcell⟩ hsame⟩

end Sys2Proof.Machine
end

section
/-! What a step does to memory: the cartridge image stays, a byte changes by a recorded write alone, and the accesses
come in the order of spec/20_memory.md R57. -/

namespace Sys2Proof.Machine

/-- On the Memory Map a write stores nothing below 0x8000, where the cartridge image lies. -/
theorem lookup_storeByte_image (p : Platform) (b : Backing) (m : Memory) (x : Word) (v : Byte) (n : Nat)
    (hp : p.space = .map b) (hn : n ≤ 0x7FFF) : Memory.lookup (storeByte p m x v) n = Memory.lookup m n := by
  unfold storeByte
  split
  · next y hy =>
    have habove : 0x8000 ≤ y.toNat := mapSlot_cell b x y (slotOf_map p b x hp ▸ hy)
    exact Memory.lookup_store_other m y.toNat n v (by omega)
  · rfl
  · rfl

/-- An instruction leaves the stored cartridge image alone. -/
theorem Effect.lookup_image {s t : State} (h : Effect s t) (b : Backing) (hs : s.platform.space = .map b) (n : Nat)
    (hn : n ≤ 0x7FFF) : Memory.lookup t.mem n = Memory.lookup s.mem n := by
  obtain ⟨hm, -⟩ | ⟨x, v, hm, -⟩ := h.memory
  · rw [hm]
  · rw [hm, lookup_storeByte_image _ b _ x v n hs hn]

/-- On the Memory Map an address of the ROM region reads the image stored there. -/
theorem peek_image (s : State) (b : Backing) (a : Word) (hs : s.platform.space = .map b) (ha : a.toNat ≤ 0x7FFF) :
    s.peek a = Memory.byteAt s.mem a :=
  peek_of_rom s a a ((slotOf_map _ b a hs).trans (mapSlot_rom b a ha))

/-- Settles O52: a cell of the Memory Map lies above the image, so no instruction's write reaches it, and a fetch writes
nothing. -/
theorem romImageNeverChanges : Obligations.RomImageNeverChanges := by
  intro s t b hs h
  obtain ⟨shape, -, he⟩ := step_effect s t h
  have ht : t.platform.space = .map b := he.platform ▸ hs
  refine ⟨ht, fun a ha => ?_⟩
  have himage : Memory.lookup t.mem a.toNat = Memory.lookup s.mem a.toNat := he.lookup_image b hs a.toNat ha
  refine ⟨?_, himage⟩
  rw [peek_image t b a ht ha, peek_image s b a hs ha, Memory.byteAt, himage, Memory.byteAt]

/-- A byte that a write changes is at the location written, and reads as the byte written. -/
theorem memWrite_changed (s : State) (x a : Word) (v : Byte) (h : (s.memWrite x v).peek a ≠ s.peek a) :
    slotOf s.platform a = slotOf s.platform x ∧ (s.memWrite x v).peek a = v := by
  have hslot : slotOf s.platform a = slotOf s.platform x := by
    by_contra hne
    exact h (memWrite_others s x v a hne)
  have hstores : Stores s x := by
    by_contra hno
    exact h (memWrite_discarded s x v hno a)
  exact ⟨hslot, peek_memWrite_of_slotOf_eq s a x v hstores hslot⟩

/-- A byte that an instruction changes is the one byte of a write it recorded. -/
theorem Effect.changed_by_write {s t : State} (h : Effect s t) (a : Word) (hne : t.peek a ≠ s.peek a) :
    ∃ x v, { kind := .write, addr := x, byte := v } ∈ t.accesses ∧
      slotOf s.platform a = slotOf s.platform x ∧ t.peek a = v := by
  obtain ⟨hm, -⟩ | ⟨x, v, hm, hlog⟩ := h.memory
  · exact absurd (peek_congr s t a hm h.platform) hne
  · have hpeek : t.peek a = (s.memWrite x v).peek a := peek_congr (s.memWrite x v) t a hm h.platform
    rw [hpeek] at hne ⊢
    refine ⟨x, v, ?_, memWrite_changed s x a v hne⟩
    obtain hlog | ⟨w, hlog⟩ := hlog <;> simp [hlog]

/-- Settles O54: a fetch changes no byte, and an instruction one by a recorded write alone. -/
theorem onlyARecordedWriteChangesAByte : Obligations.OnlyARecordedWriteChangesAByte := by
  intro s t a h hne
  obtain ⟨shape, -, he⟩ := step_effect s t h
  exact he.changed_by_write a hne

/-- A fault carries the reads of the bytes it has examined: the opcode byte, or 0xCB and the extended opcode. -/
theorem step_fault_reads (s : State) (r : Fault) (h : step s = .fault r) :
    r = .unimplementedOpcode ⟨false, s.peek s.pc, s.pc⟩ (fetchLog s 1) ∨
    r = .unimplementedOpcode ⟨true, s.peek (s.pc + 1), s.pc⟩ (fetchLog s 2) := by
  cases hp : primary (s.peek s.pc) with
  | none => exact .inl (by cases (step_unimplemented s hp).symm.trans h; rfl)
  | some shape =>
    by_cases hr : ExtRefused s shape
    · exact .inr (by cases (step_refused s shape hp hr).symm.trans h; rfl)
    · obtain ⟨t, ht⟩ := exec_completes (s.instrAtPc shape) (s.afterFetch shape.length)
      cases ((step_admitted s shape hp hr).trans ht).symm.trans h

/-- Settles O55: the record behind the fetches is what the instruction's effect adds to it. -/
theorem accessesInOrder : Obligations.AccessesInOrder := by
  refine ⟨fun s t h => ?completed, fun s record reads h => ?faulted⟩
  case completed =>
    obtain ⟨shape, hp, he⟩ := step_effect s t h
    have hn : (primary (s.peek s.pc)).map Shape.length = some shape.length := by rw [hp, Option.map_some]
    obtain ⟨-, hlog | ⟨a, v, hlog⟩⟩ | ⟨x, v, -, hlog | ⟨w, hlog⟩⟩ := he.memory
    · exact ⟨_, [], hn, hlog.trans (List.append_nil _).symm, .inl rfl⟩
    · exact ⟨_, _, hn, hlog, .inr (.inl ⟨a, v, rfl⟩)⟩
    · exact ⟨_, _, hn, hlog, .inr (.inr (.inl ⟨x, v, rfl⟩))⟩
    · exact ⟨_, _, hn, hlog, .inr (.inr (.inr ⟨x, w, v, rfl⟩))⟩
  case faulted =>
    obtain heq | heq := step_fault_reads s _ h <;> cases heq <;> rfl

end Sys2Proof.Machine
end

section
/-! The decoder by the formats of spec/30_encoding.md R80: it inverts the encoder, and the encoder inverts it. -/

namespace Sys2Proof

/-! ### The rows of the two tables -/

/-- An extended opcode gives back the operation and the operand it was made of. -/
theorem fields_of_extByte (o : ExtOp) (z : Operand) : extOpOf (extByte o z) = o ∧ operandOf (extByte o z) = z := by
  cases o with
  | bit n | res n | set n =>
    fin_cases n <;> (cases z with | reg r => cases r <;> exact ⟨rfl, rfl⟩ | mem => exact ⟨rfl, rfl⟩)
  | _ => cases z with
    | reg r => cases r <;> exact ⟨rfl, rfl⟩
    | mem => exact ⟨rfl, rfl⟩

theorem extended_extByte (o : ExtOp) (z : Operand) : extended (extByte o z) = Instr.extOf o z := by
  obtain ⟨ho, hz⟩ := fields_of_extByte o z
  rw [extended, ho, hz]

theorem wellFormed_extended : ∀ e : Byte, WellFormed (extended e) := by decide

/-- No row of the primary table reads `PREFIX CB` as an instruction: the words of 0xCB go to the extended table. -/
theorem wellFormed_of_primary (op b₁ b₂ : Byte) (shape : Shape) (h : primary op = some shape) :
    WellFormed (shape.instr b₁ b₂) := by
  unfold primary at h
  split at h <;> cases h
  all_goals first | rfl | exact wellFormed_extended b₁

/-- 0xCB is the one byte that opens the extended table. -/
theorem eq_prefix_of_primary (op : Byte) (h : primary op = some .ext) : op = 0xCB :=
  List.head_eq_of_cons_eq ((encode_primary op 0 0 .ext h).symm.trans (encode_extended 0))

/-- A byte has no row exactly if it is in the list of R93. -/
theorem primary_isNone : ∀ op : Byte, (primary op).isNone = Machine.unimplementedByte op := by decide

theorem primary_eq_none_iff (op : Byte) : primary op = none ↔ Machine.unimplementedByte op = true := by
  rw [← Option.isNone_iff_eq_none, primary_isNone]

/-! ### What `decode` answers, by format -/

section
variable {op : Byte}

theorem decode_unimplemented (h : primary op = none) (rest : List Byte) :
    decode (op :: rest) = .error (.unimplemented op) := by
  simp only [decode, h]

theorem decode_op {i : Instr} (h : primary op = some (.op i)) (rest : List Byte) :
    decode (op :: rest) = .ok (i, rest) := by
  simp only [decode, h]

theorem decode_imm8 {mk : Byte → Instr} (h : primary op = some (.imm8 mk)) (b : Byte) (rest : List Byte) :
    decode (op :: b :: rest) = .ok (mk b, rest) := by
  simp only [decode, h]

theorem decode_imm16 {mk : Word → Instr} (h : primary op = some (.imm16 mk)) (lo hi : Byte) (rest : List Byte) :
    decode (op :: lo :: hi :: rest) = .ok (mk (bytesToWord hi lo), rest) := by
  simp only [decode, h]

theorem decode_ext (h : primary op = some .ext) (e : Byte) (rest : List Byte) :
    decode (op :: e :: rest) = .ok (extended e, rest) := by
  simp only [decode, h]

/-- The encoder's word comes back whole. -/
theorem decode_opD16 {mk : Word → Instr} (h : primary op = some (.imm16 mk)) (v : Word) (rest : List Byte) :
    decode (opD16 op v ++ rest) = .ok (mk v, rest) := by
  have hv := decode_imm16 h (wordToBytes v).2 (wordToBytes v).1 rest
  rwa [Machine.bytesToWord_wordToBytes] at hv

/-- Three bytes are enough for the instruction of any row. -/
theorem decode_three {shape : Shape} (h : primary op = some shape) (b₁ b₂ : Byte) :
    decode [op, b₁, b₂] = .ok (shape.instr b₁ b₂, [op, b₁, b₂].drop shape.length) := by
  cases shape with
  | op i => exact decode_op h _
  | imm8 mk => exact decode_imm8 h b₁ _
  | imm16 mk => exact decode_imm16 h b₁ b₂ _
  | ext => exact decode_ext h b₁ _

end

/-- Bytes that decode are the bytes of a row, as many as its length says, and the rest. -/
theorem decode_ok (bytes rest : List Byte) (i : Instr) (h : decode bytes = .ok (i, rest)) :
    ∃ op b₁ b₂ shape, primary op = some shape ∧ i = shape.instr b₁ b₂ ∧
      bytes = [op, b₁, b₂].take shape.length ++ rest := by
  unfold decode at h
  split at h
  · cases h
  · next op tail =>
    split at h <;> cases h <;> rename_i hp
    · exact ⟨op, 0, 0, _, hp, rfl, rfl⟩
    · exact ⟨op, _, 0, _, hp, rfl, rfl⟩
    · exact ⟨op, _, _, _, hp, rfl, rfl⟩
    · exact ⟨op, _, 0, _, hp, rfl, rfl⟩

/-- A refusal by name is the missing row of the first byte. -/
theorem decode_eq_unimplemented_iff (op : Byte) (rest : List Byte) :
    decode (op :: rest) = .error (.unimplemented op) ↔ primary op = none := by
  refine ⟨fun h => ?_, fun h => decode_unimplemented h rest⟩
  dsimp only [decode] at h
  split at h
  case h_1 hp => exact hp
  all_goals cases h

/-! ### The round trips -/

/-- Settles O14, by the families: each is one format of `decode`, and the extended one goes by the fields of its
opcode. -/
theorem decodeOfEncodeIsTheInstruction : Obligations.DecodeOfEncodeIsTheInstruction := by
  intro i rest hi
  induction i using Instr.byFamily with
  | nop | stBC | stDE | stHL | stHLInc | stHLDec | stIoC | ldIoC | xorA => exact decode_op rfl rest
  | dec r => cases r <;> exact decode_op rfl rest
  | ldhStore v | ldhLoad v | cp v => exact decode_imm8 rfl v rest
  | ldReg r v => cases r <;> exact decode_imm8 rfl v rest
  | jrcc cc v => cases cc <;> exact decode_imm8 rfl v rest
  | jp v => exact decode_opD16 rfl v rest
  | jpcc cc v => cases cc <;> exact decode_opD16 rfl v rest
  | ldPair p v => cases p <;> exact decode_opD16 rfl v rest
  | ext o z =>
    rw [encode_extOf, ← extended_extByte]
    exact decode_ext rfl (extByte o z) rest
  | prefixCB e => cases hi

/-- Settles O15: the bytes are those of a row, and `encode_primary` says what a row's instruction is encoded by. -/
theorem decodedBytesAreTheEncoding : Obligations.DecodedBytesAreTheEncoding := by
  intro bytes rest i h
  obtain ⟨op, b₁, b₂, shape, hp, rfl, rfl⟩ := decode_ok bytes rest i h
  exact ⟨wellFormed_of_primary op b₁ b₂ shape hp, by rw [encode_primary op b₁ b₂ shape hp]⟩

/-- Settles O17, by running the decoder on each word. -/
theorem specWordsDecode : Obligations.SpecWordsDecode :=
  ⟨rfl, rfl, rfl, rfl, rfl, rfl, rfl, rfl, rfl, rfl, rfl, rfl⟩

/-! ### The bit index -/

/-- An operation is known by its row. -/
theorem ExtOp.row_injective : Function.Injective ExtOp.row := by
  intro o p h
  have hbyte : extByte o .mem = extByte p .mem := by rw [extByte, h, extByte]
  rw [← (fields_of_extByte o .mem).1, hbyte, (fields_of_extByte p .mem).1]

theorem row_extOpOf (e : Byte) : (extOpOf e).row = e.toNat / 8 := by
  have hfields := extByte_toNat (extOpOf e) (operandOf e)
  have hfield := (operandOf e).field_lt
  rw [extByte_of_fields] at hfields
  omega

theorem extOpOf_eq_of_row (e : Byte) (o : ExtOp) (h : o.row = e.toNat / 8) : extOpOf e = o :=
  ExtOp.row_injective ((row_extOpOf e).trans h.symm)

/-- In a group of 64 extended opcodes with a row for each bit, the row of `e` is that of the quotient of its distance from
the group's base. -/
theorem extOpOf_in_bit_group (op : Fin 8 → ExtOp) (k : Nat) (hrow : ∀ n, (op n).row = 8 * k + n.val) (e : Byte)
    (hlo : 0x40 * k ≤ e.toNat) (hhi : e.toNat < 0x40 * (k + 1)) :
    ∃ n : Fin 8, n.val = (e.toNat - 0x40 * k) / 8 ∧ n.val = e.toNat / 8 % 8 ∧ extOpOf e = op n := by
  have hn : (e.toNat - 0x40 * k) / 8 < 8 := by omega
  have hfield : (e.toNat - 0x40 * k) / 8 = e.toNat / 8 % 8 := by omega
  have hbyte : 8 * k + (e.toNat - 0x40 * k) / 8 = e.toNat / 8 := by omega
  exact ⟨⟨_, hn⟩, rfl, hfield, extOpOf_eq_of_row e _ ((hrow _).trans hbyte)⟩

/-- Settles O18: the three bit groups are the second, third and fourth 64 extended opcodes. -/
theorem bitIndexIsQuotientOfDifference : Obligations.BitIndexIsQuotientOfDifference := fun e =>
  ⟨extOpOf_in_bit_group .bit 1 (fun _ => rfl) e, extOpOf_in_bit_group .res 2 (fun _ => rfl) e,
    fun hlo => extOpOf_in_bit_group .set 3 (fun _ => rfl) e hlo e.isLt⟩

end Sys2Proof
end

section
/-! The step and the decoder read the same table: what decodes at PC is what a step runs, and what is refused by name
faults. -/

namespace Sys2Proof.Machine

theorem unimplementedByte_count :
    ((List.range 256).filter fun k => unimplementedByte (BitVec.ofNat 8 k)).length = 216 := by
  rfl

/-- Settles O16: a byte of the list has no row, so the decoder refuses it and the fetch faults behind one read. -/
theorem listedBytesAreUnimplemented : Obligations.ListedBytesAreUnimplemented := by
  refine ⟨fun op rest => ?_, unimplementedByte_count, fun s h => ?_⟩
  · exact (decode_eq_unimplemented_iff op rest).trans (primary_eq_none_iff op)
  · exact step_unimplemented s ((primary_eq_none_iff _).mpr h)

/-- The rotate and shift group is the lowest quarter of the extended table (spec/30_encoding.md R90). -/
theorem inRotShiftGroup_eq : ∀ e : Byte, inRotShiftGroup e = decide (e.toNat < 0x40) := by decide

theorem rotShiftRefused_iff (p : Platform) (e : Byte) :
    rotShiftRefused p e = true ↔ e.toNat < 0x40 ∧ p.cbRotShift = .unimplemented := by
  rw [rotShiftRefused, inRotShiftGroup_eq, Bool.and_eq_true, decide_eq_true_iff, beq_iff_eq]

theorem shape_length_le (shape : Shape) : shape.length ≤ 3 := by
  cases shape <;> simp [Shape.length]

/-- The decoder on the three bytes at PC reads the row's instruction, as the fetch does, and leaves what the row's length
leaves of them. -/
theorem decode_at_pc (s : State) (shape : Shape) (h : primary (s.peek s.pc) = some shape) :
    ∃ rest, decode [s.peek s.pc, s.peek (s.pc + 1), s.peek (s.pc + 2)] = .ok (s.instrAtPc shape, rest) ∧
      3 - rest.length = shape.length := by
  have hpc : s.pc + 1 + 1 = s.pc + 2 := BitVec.add_assoc s.pc 1 1
  have hlen := shape_length_le shape
  rw [State.instrAtPc, hpc, decode_three h]
  refine ⟨_, rfl, ?_⟩
  rw [List.length_drop, List.length_cons, List.length_cons, List.length_singleton]
  omega

/-- Settles O19: the row of the byte at PC is what the decoder and the fetch both read, and the exception is the one
refusal of a byte with a row. -/
theorem stepRunsTheDecodedInstruction : Obligations.StepRunsTheDecodedInstruction := by
  intro s i rest hdecode hadmitted
  cases hp : primary (s.peek s.pc) with
  | none => cases (decode_unimplemented hp _).symm.trans hdecode
  | some shape =>
    obtain ⟨rest', hrow, hlen⟩ := decode_at_pc s shape hp
    cases hrow.symm.trans hdecode
    rw [hlen]
    refine step_admitted s shape hp fun ⟨hext, hrefused⟩ => hadmitted ⟨?_, (rotShiftRefused_iff _ _).mp hrefused⟩
    exact eq_prefix_of_primary _ (hext ▸ hp)

end Sys2Proof.Machine
end

section
/-! Runs by their steps: a run takes its first step and goes on, so what every step keeps fixes the whole run
(spec/60_exceptions.md R208). -/

namespace Sys2Proof.Machine

theorem completesIn_zero (s : State) : CompletesIn 0 s s := rfl

theorem completesIn_succ_of_step {s t : State} (h : step s = .next t) (k : Nat) (u : State) :
    CompletesIn (k + 1) s u ↔ CompletesIn k t u := by
  have hcore : Sys2Proof.core.step s = .next t := h
  simp only [CompletesIn, Host.Core.run, hcore]

theorem elapsedCycles_succ_of_step {s t : State} (h : step s = .next t) (k : Nat) :
    elapsedCycles (k + 1) s = t.cycles + elapsedCycles k t := by
  rw [elapsedCycles, h]

/-- Every state of `P` completes its step in `n` cycles and stays in `P`. -/
def StepsWithin (P : State → Prop) (n : Nat) : Prop := ∀ s, P s → ∃ t, step s = .next t ∧ t.cycles = n ∧ P t

theorem StepsWithin.completes {P : State → Prop} {n : Nat} (hP : StepsWithin P n) (k : Nat) (s : State) (hs : P s) :
    ∃ t, CompletesIn k s t := by
  induction k generalizing s with
  | zero => exact ⟨s, completesIn_zero s⟩
  | succ k ih =>
    obtain ⟨t, hstep, -, ht⟩ := hP s hs
    obtain ⟨u, hu⟩ := ih t ht
    exact ⟨u, (completesIn_succ_of_step hstep k u).mpr hu⟩

theorem StepsWithin.elapsedCycles_eq {P : State → Prop} {n : Nat} (hP : StepsWithin P n) (k : Nat) (s : State)
    (hs : P s) : elapsedCycles k s = n * k := by
  induction k generalizing s with
  | zero => rfl
  | succ k ih =>
    obtain ⟨t, hstep, hcycles, ht⟩ := hP s hs
    rw [elapsedCycles_succ_of_step hstep, hcycles, ih t ht, Nat.mul_succ, Nat.add_comm]

end Sys2Proof.Machine
end

section
/-! NOP and the jumps (spec/40_nop_and_jumps.md): each meaning as the state it answers. -/

namespace Sys2Proof.Machine

theorem exec_nop (s : State) : exec .nop s = .next { s with cycles := 4 } := rfl

theorem exec_jp (a16 : Word) (s : State) : exec (.jp a16) s = .next { s with pc := a16, cycles := 16 } := rfl

theorem exec_jpOf_eq_ite (cc : Cond) (a16 : Word) (s : State) : exec (Instr.jpOf cc a16) s =
    if condHolds cc s.flags then .next { s with pc := a16, cycles := 16 } else .next { s with cycles := 12 } :=
  exec_jpOf cc a16 s

theorem exec_jrOf_eq_ite (cc : Cond) (r8 : Byte) (s : State) : exec (Instr.jrOf cc r8) s =
    if condHolds cc s.flags then .next { s with pc := s.pc + sext16 r8, cycles := 12 }
    else .next { s with cycles := 8 } :=
  exec_jrOf cc r8 s

theorem condHolds_nz_iff (f : Flags) : condHolds .nz f = true ↔ f.z = false := by rw [condHolds, Bool.not_eq_true']

theorem condHolds_nc_iff (f : Flags) : condHolds .nc f = true ↔ f.c = false := by rw [condHolds, Bool.not_eq_true']

/-- Settles O25: the meanings are `exec_jp` and `exec_nop`, and the two immediate bytes are the target's halves. -/
theorem nopAndAbsoluteJump : Obligations.NopAndAbsoluteJump := by
  refine fun s a16 => ⟨exec_jp a16 s, ⟨(wordToBytes a16).2, (wordToBytes a16).1, rfl, ?_⟩, exec_nop s⟩
  rw [wordToBytes_fst_toNat, wordToBytes_snd_toNat, Nat.div_add_mod]

/-- Of two conditions of which the first holds and the second does not, the first one's jump is taken alone. -/
theorem exec_jpOf_taken_and_not_taken {taken skipped : Cond} {s : State} (a16 : Word)
    (htaken : condHolds taken s.flags = true) (hskipped : condHolds skipped s.flags = false) :
    exec (Instr.jpOf taken a16) s = .next { s with pc := a16, cycles := 16 } ∧
      exec (Instr.jpOf skipped a16) s = .next { s with cycles := 12 } := by
  rw [exec_jpOf_eq_ite, exec_jpOf_eq_ite, htaken, hskipped]
  exact ⟨rfl, rfl⟩

/-- Settles O26: at each value of Z and of Carry one of the flag's two conditions holds and the other does not. -/
theorem conditionalJumpFollowsItsFlag : Obligations.ConditionalJumpFollowsItsFlag := by
  refine fun s a16 => ⟨fun hz => ?_, fun hz => ?_, fun hc => ?_, fun hc => ?_⟩
  · exact exec_jpOf_taken_and_not_taken (taken := .nz) (skipped := .z) a16 ((condHolds_nz_iff _).mpr hz) hz
  · exact exec_jpOf_taken_and_not_taken (taken := .z) (skipped := .nz) a16 hz (congrArg not hz)
  · exact exec_jpOf_taken_and_not_taken (taken := .nc) (skipped := .c) a16 ((condHolds_nc_iff _).mpr hc) hc
  · exact exec_jpOf_taken_and_not_taken (taken := .c) (skipped := .nc) a16 hc (congrArg not hc)

/-- The target of a relative jump: the signed sum modulo 65536 (R13, R114). -/
theorem add_sext16_toNat (pc : Word) (r8 : Byte) :
    ((pc + sext16 r8).toNat : Int) = ((pc.toNat : Int) + r8.toInt) % 65536 := by
  have hsext : (sext16 r8).toNat = (r8.toInt % 65536).toNat := BitVec.toNat_ofInt r8.toInt
  rw [BitVec.toNat_add, hsext]
  omega

/-- Settles O27: the target is `add_sext16_toNat`, and each condition reads its flag alone. -/
theorem relativeJumpAddsTheDisplacement : Obligations.RelativeJumpAddsTheDisplacement := by
  refine fun s r8 => ⟨s.pc + sext16 r8, add_sext16_toNat s.pc r8, ?nz, exec_jrOf_eq_ite .z r8 s, ?nc,
    exec_jrOf_eq_ite .c r8 s⟩
  case nz => exact (exec_jrOf_eq_ite .nz r8 s).trans (if_congr (condHolds_nz_iff _) rfl rfl)
  case nc => exact (exec_jrOf_eq_ite .nc r8 s).trans (if_congr (condHolds_nc_iff _) rfl rfl)

/-! ### The endless loop of one instruction -/

/-- At PC stands the absolute jump to its own address. -/
def JumpsToItself (s : State) : Prop :=
  s.peek s.pc = 0xC3 ∧ bytesToWord (s.peek (s.pc + 2)) (s.peek (s.pc + 1)) = s.pc

theorem JumpsToItself.step_eq {s : State} (h : JumpsToItself s) :
    step s = .next { s.afterFetch 3 with pc := s.pc, cycles := 16 } := by
  obtain ⟨hop, htarget⟩ := h
  have hrow : primary (s.peek s.pc) = some (.imm16 .jp) := by rw [hop]; rfl
  have hpc : s.pc + 1 + 1 = s.pc + 2 := BitVec.add_assoc s.pc 1 1
  rw [step_imm16 s .jp hrow, hpc, htarget, exec_jp]

/-- The jump leaves memory and PC as they were, and so stands at PC again. -/
theorem jumpsToItself_stepsWithin : StepsWithin JumpsToItself 16 := fun _ hs => ⟨_, hs.step_eq, rfl, hs⟩

/-- Settles O28: the loop is kept by every step, each of 16 cycles, so by every number of steps. -/
theorem jumpToItselfRunsForever : Obligations.JumpToItselfRunsForever := by
  intro s hop htarget
  have hloop : JumpsToItself s := ⟨hop, htarget⟩
  exact ⟨fun k => jumpsToItself_stepsWithin.completes k s hloop,
    fun k => jumpsToItself_stepsWithin.elapsedCycles_eq k s hloop⟩

end Sys2Proof.Machine
end

section
/-! The immediate loads (spec/41_load_immediate.md): a pair takes the two halves of its immediate, a register its one
byte. -/

namespace Sys2Proof.Machine

/-- Settles O29: each load is `loadPair` of its destination, and a pair's halves are those of the immediate. -/
theorem loadPairImmediate : Obligations.LoadPairImmediate := by
  intro s v
  have hhi := wordToBytes_fst_toNat v
  have hlo := wordToBytes_snd_toNat v
  have hpair := bytesToWord_wordToBytes v
  refine ⟨?bc, ?de, ?hl, exec_ldPairOf .sp v s⟩
  case bc => exact ⟨_, exec_ldPairOf .bc v s, hhi, hlo, hpair, rfl⟩
  case de => exact ⟨_, exec_ldPairOf .de v s, hhi, hlo, hpair, rfl⟩
  case hl => exact ⟨_, exec_ldPairOf .hl v s, hhi, hlo, hpair, rfl⟩

/-- A write to a register at the end of an instruction writes that register alone. -/
theorem wroteRegister_set8 (s : State) (r : Reg8) (v : Byte) (n : Nat) :
    WroteRegister s { s.set8 r v with cycles := n } r v n where
  written := get8_set8_same s r v
  regs q hq := get8_set8_other s r q v hq
  sp := set8_sp s r v
  pc := set8_pc s r v
  bytes := peek_set8 s r v
  mem := set8_mem s r v
  platform := set8_platform s r v
  accesses := set8_accesses s r v
  cycles := rfl

/-- Settles O30: each load is `loadReg` of its register, which is one register write. -/
theorem loadRegisterImmediate : Obligations.LoadRegisterImmediate :=
  fun s r v => ⟨_, exec_ldRegOf r v s, wroteRegister_set8 s r v 8, set8_flags s r v⟩

end Sys2Proof.Machine
end

section
/-! Stores of A and the I/O page (spec/42_store_and_io_page.md): a store is one memory write that keeps the core or then
sets HL, an I/O-page load is one memory read into A. -/

namespace Sys2Proof.Machine

/-- What a store did is told by memory and the platform: a state with these has had the same store. -/
theorem StoredByte.congr {s t u : State} {x : Word} {v : Byte} (h : StoredByte s t x v) (hm : u.mem = t.mem)
    (hp : u.platform = t.platform) : StoredByte s u x v where
  written hx := (peek_congr t u x hm hp).trans (h.written hx)
  discarded hx a := (peek_congr t u a hm hp).trans (h.discarded hx a)
  others a ha := (peek_congr t u a hm hp).trans (h.others a ha)
  platform := hp.trans h.platform

/-- A memory write leaves the core state alone. -/
theorem sameCore_memWrite (s : State) (x : Word) (v : Byte) : SameCore s (s.memWrite x v) :=
  ⟨get8_memWrite s x v, memWrite_flags s x v, memWrite_sp s x v, memWrite_pc s x v⟩

/-- A store of A at an address completes, stores there and changes nothing else (R130). -/
theorem storeA_completes (n : Nat) (x : Word) (s : State) :
    ∃ t, storeA n x s = .next t ∧ StoredByte s t x s.a ∧ SameCore s t ∧ t.cycles = n ∧
      t.accesses = s.accesses ++ [{ kind := .write, addr := x, byte := s.a }] :=
  ⟨_, finish_eq n _, (memWrite_storedByte s x s.a).congr rfl rfl, sameCore_memWrite s x s.a, rfl,
    memWrite_accesses s x s.a⟩

/-- Settles O31: each of the three is `storeA` at its pair's value. -/
theorem storeAThroughPair : Obligations.StoreAThroughPair :=
  fun s => ⟨storeA_completes 8 (s.get16 .bc) s, storeA_completes 8 (s.get16 .de) s, storeA_completes 8 (s.get16 .hl) s⟩

/-- A store of A to the I/O page is at the address that is the offset above 0xFF00 (R136). -/
theorem storeA_ioAddress_completes (n : Nat) (offset : Byte) (s : State) :
    ∃ t x, storeA n (ioAddress offset) s = .next t ∧ x.toNat = 0xFF00 + offset.toNat ∧ StoredByte s t x s.a ∧
      SameCore s t ∧ t.cycles = n ∧ t.accesses = s.accesses ++ [{ kind := .write, addr := x, byte := s.a }] := by
  obtain ⟨t, ht, hdone⟩ := storeA_completes n (ioAddress offset) s
  exact ⟨t, ioAddress offset, ht, ioAddress_toNat offset, hdone⟩

/-- Settles O33: each form is `storeA` at the I/O-page address of its offset. -/
theorem storeAToTheIoPage : Obligations.StoreAToTheIoPage :=
  fun s a8 => ⟨storeA_ioAddress_completes 12 a8 s, storeA_ioAddress_completes 8 s.c s⟩

theorem loadA_eq (n : Nat) (x : Word) (s : State) : loadA n x s =
    .next { s with a := s.peek x, cycles := n, accesses := s.accesses ++ [⟨.read, x, s.peek x⟩] } := rfl

/-- A load of A changes no byte of memory. -/
theorem sameBytes_loadA {n : Nat} {x : Word} {s t : State} (h : loadA n x s = .next t) : SameBytes s t := by
  cases (loadA_eq n x s).symm.trans h
  exact fun a => peek_congr s _ a rfl rfl

/-- Settles O34: each form is `loadA` from the I/O-page address of its offset. -/
theorem loadAFromTheIoPage : Obligations.LoadAFromTheIoPage := by
  refine fun s a8 => ⟨?immediate, ?registerC⟩
  case immediate =>
    have hload := loadA_eq 12 (ioAddress a8) s
    exact ⟨_, _, hload, ioAddress_toNat a8, rfl, sameBytes_loadA hload⟩
  case registerC =>
    have hload := loadA_eq 8 (ioAddress s.c) s
    exact ⟨_, _, hload, ioAddress_toNat s.c, rfl, sameBytes_loadA hload⟩

/-- A store of A at HL after which HL takes a new value: the write is at the old HL, and of the registers H and L alone
change (R134, R135). -/
theorem storeAThenSetHL_completes (s : State) (v : Word) :
    ∃ t, finish 8 ((s.memWrite (s.get16 .hl) s.a).set16 .hl v) = .next t ∧ StoredByte s t (s.get16 .hl) s.a ∧
      t.get16 .hl = v ∧ (∀ r, r ≠ .h → r ≠ .l → t.get8 r = s.get8 r) ∧ t.flags = s.flags ∧ t.sp = s.sp ∧
      t.pc = s.pc ∧ t.cycles = 8 ∧
      t.accesses = s.accesses ++ [{ kind := .write, addr := s.get16 .hl, byte := s.a }] := by
  obtain ⟨-, hread, -, -, hregs, -⟩ :=
    pairsAreViewsOfTheirHalves (s.memWrite (s.get16 .hl) s.a) v .hl .h .l (by simp)
  exact ⟨_, finish_eq 8 _, (memWrite_storedByte s _ s.a).congr rfl rfl, hread,
    fun r hh hl => (hregs r hh hl).trans (get8_memWrite s _ _ r), rfl, rfl, rfl, rfl, rfl⟩

theorem inc16_toNat (v : Word) : (inc16 v).1.toNat = (v.toNat + 1) % 65536 := BitVec.toNat_add v 1

theorem dec16_toNat (v : Word) : (dec16 v).1.toNat = (v.toNat + 65535) % 65536 := by
  rw [Nat.add_comm]
  exact BitVec.toNat_sub v 1

/-- Settles O32: both forms store at the old HL and then set it, to its successor or its predecessor. -/
theorem storeThenStepHL : Obligations.StoreThenStepHL := by
  refine fun s => ⟨?increment, ?decrement⟩
  case increment =>
    obtain ⟨t, ht, hstored, hhl, hrest⟩ := storeAThenSetHL_completes s (inc16 (s.get16 .hl)).1
    exact ⟨t, ht, hstored, hhl ▸ inc16_toNat _, hrest⟩
  case decrement =>
    obtain ⟨t, ht, hstored, hhl, hrest⟩ := storeAThenSetHL_completes s (dec16 (s.get16 .hl)).1
    exact ⟨t, ht, hstored, hhl ▸ dec16_toNat _, hrest⟩

end Sys2Proof.Machine
end

section
/-! Arithmetic and logic (spec/43_alu.md): the subtraction primitive in numbers, and the instructions that write its
flags. -/

namespace Sys2Proof.Machine

theorem exec_xorA (s : State) :
    exec .xorA s = .next { s with a := s.a ^^^ s.a, flags := flagsAfterXor, cycles := 4 } := rfl

/-- Settles O35: a byte XORed with itself is zero, and the flags are the constants of `flagsAfterXor`. -/
theorem xorAClearsA : Obligations.XorAClearsA := by
  intro s
  have hclear : s.a ^^^ s.a = 0x00 := BitVec.xor_self
  rw [exec_xorA, hclear, flagsAfterXor]

/-! ### The subtraction primitive -/

theorem lowNibble_toNat (v : Byte) : (v &&& 0x0F).toNat = v.toNat % 16 := by
  rw [BitVec.toNat_and]
  exact Nat.and_two_pow_sub_one_eq_mod v.toNat 4

theorem sub8_res_toNat (a b : Byte) : ((sub8 a b).res.toNat : Int) = ((a.toNat : Int) - b.toNat) % 256 := by
  have hsub : (sub8 a b).res.toNat = (256 - b.toNat + a.toNat) % 256 := BitVec.toNat_sub a b
  have hb : b.toNat < 256 := b.isLt
  omega

theorem sub8_res_eq_zero_iff (a b : Byte) : (sub8 a b).res = 0 ↔ a = b := sub_eq_zero

theorem sub8_borrow_iff (a b : Byte) : (sub8 a b).borrow = true ↔ a.toNat < b.toNat := decide_eq_true_iff

theorem sub8_half_iff (a b : Byte) : (sub8 a b).half = true ↔ a.toNat % 16 < b.toNat % 16 := by
  rw [← lowNibble_toNat a, ← lowNibble_toNat b]
  exact decide_eq_true_iff

/-- Settles O36: one lemma for each of the primitive's answers, and one for the zero result. -/
theorem subtractionWrapsAndBorrows : Obligations.SubtractionWrapsAndBorrows :=
  fun a b => ⟨sub8_res_toNat a b, sub8_borrow_iff a b, sub8_half_iff a b, sub8_res_eq_zero_iff a b⟩

/-! ### Flags written at the end of an instruction -/

/-- What an instruction did to the registers but the flags does not depend on the flags it leaves. -/
theorem WroteRegister.setFlags {s t : State} {r : Reg8} {v : Byte} {n : Nat} (h : WroteRegister s t r v n)
    (f : Flags) : WroteRegister s (t.setFlags f) r v n where
  written := (get8_setFlags t f r).trans h.written
  regs q hq := (get8_setFlags t f q).trans (h.regs q hq)
  sp := h.sp
  pc := h.pc
  bytes := h.bytes
  mem := h.mem
  platform := h.platform
  accesses := h.accesses
  cycles := h.cycles

/-- An instruction that writes the flags alone keeps every other register. -/
theorem keptRegisters_setFlags (s : State) (f : Flags) (n : Nat) :
    KeptRegisters s { s.setFlags f with cycles := n } n where
  regs r := (get8_withCycles _ n r).trans (get8_setFlags s f r)
  sp := rfl
  pc := rfl
  bytes := peek_setFlags s f
  mem := rfl
  platform := rfl
  accesses := rfl
  cycles := rfl

/-! ### `DEC r` -/

theorem exec_decOf_eq (r : Reg8) (s : State) : exec (Instr.decOf r) s =
    .next (({ s.set8 r (sub8 (s.get8 r) 1).res with cycles := 4 } : State).setFlags
      (flagsAfterDec (s.get8 r) s.flags)) :=
  exec_decOf r s

theorem sub8_one_res_toNat (a : Byte) : (sub8 a 1).res.toNat = (a.toNat + 255) % 256 := by
  have hres : ((sub8 a 1).res.toNat : Int) = ((a.toNat : Int) - 1) % 256 := sub8_res_toNat a 1
  omega

/-- Taking one away borrows from the high nibble exactly where the low nibble is zero. -/
theorem sub8_one_half (a : Byte) : (sub8 a 1).half = (a.toNat % 16 == 0) := by
  rw [Bool.eq_iff_iff, sub8_half_iff, beq_iff_eq]
  exact Nat.lt_one_iff

/-- Settles O37: `DEC r` writes the register with `sub8` of it and one, and of that subtraction's flags all but the
borrow. -/
theorem decrementRegister : Obligations.DecrementRegister := by
  intro s r
  refine ⟨_, (sub8 (s.get8 r) 1).res, exec_decOf_eq r s, sub8_one_res_toNat (s.get8 r),
    (wroteRegister_set8 s r _ 4).setFlags _, ?flags⟩
  case flags => rw [← sub8_one_half]; rfl

/-! ### `CP d8` -/

theorem exec_cp (d8 : Byte) (s : State) :
    exec (.cp d8) s = .next { s.setFlags (flagsAfterCp s.a d8) with cycles := 8 } := rfl

/-- Settles O38: `CP d8` writes the flags of `sub8` of A and the immediate, and no register. -/
theorem compareImmediate : Obligations.CompareImmediate := by
  intro s d8
  have hzero : ((sub8 s.a d8).res == 0) = true ↔ s.a = d8 := beq_iff_eq.trans (sub8_res_eq_zero_iff s.a d8)
  exact ⟨_, exec_cp d8 s, keptRegisters_setFlags s _ 8, hzero, rfl, sub8_half_iff s.a d8, sub8_borrow_iff s.a d8⟩

end Sys2Proof.Machine
end

section
/-! The extended table (spec/44_extended_bit_ops.md R160 to R168): the bytes of a row, what its meaning does to the
operand, and what `BIT` reads of it. -/

namespace Sys2Proof.Machine

/-! ### The bytes of a row and the row's instruction -/

/-- A row of the extended table is encoded by the number of its operation and operand. -/
theorem encode_extOf_of_number (o : ExtOp) (z : Operand) {k : Nat} (h : 8 * o.row + z.field = k) :
    encode (Instr.extOf o z) = [0xCB, BitVec.ofNat 8 k] := by
  rw [encode_extOf, extByte, h]
  rfl

theorem encode_bitOf (n : Fin 8) (z : Operand) :
    encode (Instr.bitOf n z) = [0xCB, BitVec.ofNat 8 (0x40 + 8 * n.val + z.field)] :=
  encode_extOf_of_number (.bit n) z (by rw [ExtOp.row]; omega)

theorem encode_resOf (n : Fin 8) (z : Operand) :
    encode (Instr.resOf n z) = [0xCB, BitVec.ofNat 8 (0x80 + 8 * n.val + z.field)] :=
  encode_extOf_of_number (.res n) z (by rw [ExtOp.row]; omega)

theorem encode_setOf (n : Fin 8) (z : Operand) :
    encode (Instr.setOf n z) = [0xCB, BitVec.ofNat 8 (0xC0 + 8 * n.val + z.field)] :=
  encode_extOf_of_number (.set n) z (by rw [ExtOp.row]; omega)

/-- The operand field of `(HL)` is 6 (spec/30_encoding.md R83). -/
theorem add_field_mem (base : Nat) (n : Fin 8) : base + 8 * n.val + Operand.mem.field = base + 6 + 8 * n.val := by
  rw [Operand.field]
  omega

theorem exec_bitOf (n : Fin 8) (z : Operand) (s : State) : exec (Instr.bitOf n z) s = bitTest n z s :=
  exec_extOf (.bit n) z s

theorem exec_resOf (n : Fin 8) (z : Operand) (s : State) :
    exec (Instr.resOf n z) s = modifyOperand (clearBit n) z s :=
  exec_extOf (.res n) z s

theorem exec_setOf (n : Fin 8) (z : Operand) (s : State) :
    exec (Instr.setOf n z) s = modifyOperand (raiseBit n) z s :=
  exec_extOf (.set n) z s

/-! ### `PREFIX CB` -/

theorem exec_prefixCB (e : Byte) (s : State) : exec (.prefixCB e) s = extendedOp (extOpOf e) (operandOf e) s := rfl

theorem exec_extended (e : Byte) (s : State) : exec (extended e) s = extendedOp (extOpOf e) (operandOf e) s :=
  exec_extOf (extOpOf e) (operandOf e) s

/-- Each of the three kinds of operation ends with the count of its operand. -/
theorem extendedOp_cycles (o : ExtOp) (z : Operand) {s t : State} (h : extendedOp o z s = .next t) :
    t.cycles = baseCycles z := by
  obtain ⟨-, f, hf⟩ | ⟨n, rfl⟩ | ⟨-, f, hf⟩ := extendedOp_kinds o
  · rw [hf] at h; cases h; rfl
  · cases h; rfl
  · rw [hf] at h; cases h; rfl

theorem baseCycles_eq_ite (z : Operand) : baseCycles z = if z.field = 6 then 16 else 8 := by
  cases z with
  | reg r => cases r <;> rfl
  | mem => rfl

/-- The operand is selected by the low three bits of the extended opcode (spec/30_encoding.md R83). -/
theorem field_operandOf (e : Byte) : (operandOf e).field = e.toNat % 8 := by
  have hnumber := extByte_toNat (extOpOf e) (operandOf e)
  have hfield := (operandOf e).field_lt
  rw [extByte_of_fields] at hnumber
  omega

/-- Settles O39: both meanings are the operation and the operand of the extended opcode's fields. -/
theorem prefixRunsTheExtendedInstruction : Obligations.PrefixRunsTheExtendedInstruction := by
  intro e s
  obtain ⟨t, ht⟩ := extendedOp_completes (extOpOf e) (operandOf e) s
  refine ⟨t, (exec_prefixCB e s).trans ht, (exec_extended e s).trans ht, ?cycles, decode_ext rfl e⟩
  case cycles => rw [extendedOp_cycles _ _ ht, baseCycles_eq_ite, field_operandOf]

/-! ### `BIT` -/

/-- Z is the negation of the bit, as a number (R162). -/
theorem flagsAfterBit_z_iff (n : Fin 8) (v : Byte) (f : Flags) :
    (flagsAfterBit n v f).z = true ↔ v.toNat / 2 ^ n.val % 2 = 0 := by
  rw [flagsAfterBit, Bool.not_eq_true', BitVec.getLsbD, Nat.testBit_eq_decide_div_mod_eq, decide_eq_false_iff_not]
  omega

theorem sameCore_logAccess (s : State) (k : AccessKind) (a : Word) (v : Byte) : SameCore s (s.logAccess k a v) :=
  ⟨get8_logAccess s k a v, rfl, rfl, rfl⟩

/-- Settles O40: on a register `BIT` writes the flags alone, on `(HL)` it also records the one read. -/
theorem bitTestsTheOperand : Obligations.BitTestsTheOperand := by
  refine fun s n => ⟨fun r => encode_bitOf n (.reg r), ?bytesMem, fun r => ?register, ?memory⟩
  case bytesMem => rw [encode_bitOf, add_field_mem]
  case register =>
    exact ⟨_, exec_bitOf n (.reg r) s, keptRegisters_setFlags s _ 8, flagsAfterBit_z_iff n _ _, rfl, rfl, rfl⟩
  case memory =>
    have hcore := sameCore_logAccess s .read (s.get16 .hl) (s.peek (s.get16 .hl))
    exact ⟨_, exec_bitOf n .mem s, hcore, fun _ => rfl, rfl, rfl, rfl, rfl, flagsAfterBit_z_iff n _ _, rfl, rfl, rfl⟩

/-! ### `RES` and `SET` -/

/-- The mask of both operations has bit `n` alone. -/
theorem getLsbD_mask (n : Fin 8) (i : Nat) : (1#8 <<< n.val).getLsbD i = decide (i = n.val) := by
  rw [← BitVec.twoPow_eq, BitVec.getLsbD_twoPow, decide_eq_true n.isLt, Bool.true_and]
  exact decide_eq_decide.mpr eq_comm

theorem getLsbD_clearBit (n : Fin 8) (v : Byte) (i : Nat) (hi : i < 8) :
    (clearBit n v).getLsbD i = if i = n.val then false else v.getLsbD i := by
  rw [clearBit, BitVec.getLsbD_and, BitVec.getLsbD_not, getLsbD_mask, decide_eq_true hi, Bool.true_and]
  split <;> simp [*]

theorem getLsbD_raiseBit (n : Fin 8) (v : Byte) (i : Nat) :
    (raiseBit n v).getLsbD i = if i = n.val then true else v.getLsbD i := by
  rw [raiseBit, BitVec.getLsbD_or, getLsbD_mask]
  split <;> simp [*]

/-- Reading the byte at HL and then writing one there is what an extended instruction does to `(HL)`. -/
theorem rewroteByteAtHL_memWrite (s : State) (v : Byte) :
    RewroteByteAtHL s { (s.logAccess .read (s.get16 .hl) (s.peek (s.get16 .hl))).memWrite (s.get16 .hl) v with
      cycles := 16 } v where
  stored :=
    have hwrite := memWrite_storedByte (s.logAccess .read (s.get16 .hl) (s.peek (s.get16 .hl))) (s.get16 .hl) v
    ⟨hwrite.written, hwrite.discarded, hwrite.others, rfl⟩
  regs r := by rw [get8_withCycles, get8_memWrite, get8_logAccess]
  sp := rfl
  pc := rfl
  accesses := List.append_assoc _ _ _
  cycles := rfl

section
variable (f : Byte → Byte) (s : State)

theorem modifyOperand_reg_completes (r : Reg8) :
    ∃ t, modifyOperand f (.reg r) s = .next t ∧ WroteRegister s t r (f (s.get8 r)) 8 ∧ t.flags = s.flags :=
  ⟨_, modifyOperand_reg f r s, wroteRegister_set8 s r _ 8, set8_flags s r _⟩

theorem modifyOperand_mem_completes :
    ∃ t, modifyOperand f .mem s = .next t ∧ RewroteByteAtHL s t (f (s.peek (s.get16 .hl))) ∧ t.flags = s.flags :=
  ⟨_, modifyOperand_mem f s, rewroteByteAtHL_memWrite s _, rfl⟩

end

/-- Settles O41: each is `modifyOperand` with its change of the byte, of which every bit is known. -/
theorem resAndSetForceTheBit : Obligations.ResAndSetForceTheBit := by
  refine fun s n => ⟨fun r => encode_resOf n (.reg r), ?resMemBytes, fun r => encode_setOf n (.reg r), ?setMemBytes,
    fun r => ?resReg, ?resMem, fun r => ?setReg, ?setMem⟩
  case resMemBytes => rw [encode_resOf, add_field_mem]
  case setMemBytes => rw [encode_setOf, add_field_mem]
  case resReg =>
    obtain ⟨t, ht, hwrote, hflags⟩ := modifyOperand_reg_completes (clearBit n) s r
    exact ⟨t, _, (exec_resOf n _ s).trans ht, hwrote, hflags, getLsbD_clearBit n _⟩
  case resMem =>
    obtain ⟨t, ht, hwrote, hflags⟩ := modifyOperand_mem_completes (clearBit n) s
    exact ⟨t, _, (exec_resOf n _ s).trans ht, hwrote, hflags, getLsbD_clearBit n _⟩
  case setReg =>
    obtain ⟨t, ht, hwrote, hflags⟩ := modifyOperand_reg_completes (raiseBit n) s r
    exact ⟨t, _, (exec_setOf n _ s).trans ht, hwrote, hflags, fun i _ => getLsbD_raiseBit n _ i⟩
  case setMem =>
    obtain ⟨t, ht, hwrote, hflags⟩ := modifyOperand_mem_completes (raiseBit n) s
    exact ⟨t, _, (exec_setOf n _ s).trans ht, hwrote, hflags, fun i _ => getLsbD_raiseBit n _ i⟩

/-! ### The laws of the three on one operand -/

section
variable {s t : State} {z : Operand}

theorem bitTest_flags {n : Fin 8} (h : bitTest n z s = .next t) :
    t.flags = flagsAfterBit n (readOperand z s).1 s.flags := by
  cases h
  rfl

/-- `BIT` leaves its operand as it was. -/
theorem bitTest_keeps_operand {n : Fin 8} (h : bitTest n z s = .next t) :
    (readOperand z t).1 = (readOperand z s).1 := by
  cases h
  cases z with
  | reg r => cases r <;> rfl
  | mem => rfl

theorem bitTest_sameBytes {n : Fin 8} (h : bitTest n z s = .next t) : SameBytes s t := by
  cases h
  cases z <;> exact fun _ => rfl

/-- A modified operand reads back changed, `(HL)` where the location stores. -/
theorem modifyOperand_reads_back {f : Byte → Byte} (hz : z = .mem → Stores s (s.get16 .hl))
    (h : modifyOperand f z s = .next t) : (readOperand z t).1 = f (readOperand z s).1 := by
  cases h
  cases z with
  | reg r => exact (get8_withCycles _ 8 r).trans (get8_set8_same s r _)
  | mem => exact peek_memWrite_stores (s.logAccess _ _ _) (s.get16 .hl) _ (hz rfl)

/-- Modifying `(HL)` keeps HL and the platform, and with them what the location does with a write. -/
theorem modifyOperand_keeps_stores {f : Byte → Byte} (hz : z = .mem → Stores s (s.get16 .hl))
    (h : modifyOperand f z s = .next t) : z = .mem → Stores t (t.get16 .hl) := by
  rintro rfl
  cases h
  exact hz rfl

end

/-- Settles O42: what the first operation leaves in the operand is what the second one reads. -/
theorem bitOperationLaws : Obligations.BitOperationLaws := by
  intro s t u n z hz
  rw [exec_resOf, exec_resOf, exec_setOf, exec_bitOf, exec_bitOf]
  refine ⟨fun hres hbit => ?resBit, fun hset hbit => ?setBit, fun hset hres i hi => ?setRes, fun hbit => ?bit⟩
  case resBit =>
    rw [bitTest_flags hbit, modifyOperand_reads_back hz hres, flagsAfterBit, getLsbD_clearBit n _ _ n.isLt, if_pos rfl,
      Bool.not_false]
  case setBit =>
    rw [bitTest_flags hbit, modifyOperand_reads_back hz hset, flagsAfterBit, getLsbD_raiseBit, if_pos rfl,
      Bool.not_true]
  case setRes =>
    rw [modifyOperand_reads_back (modifyOperand_keeps_stores hz hset) hres, modifyOperand_reads_back hz hset,
      getLsbD_clearBit n _ i hi, getLsbD_raiseBit]
    exact ite_congr rfl (fun _ => rfl) fun hne => if_neg hne
  case bit =>
    exact ⟨bitTest_keeps_operand hbit, by rw [bitTest_flags hbit, flagsAfterBit], bitTest_sameBytes hbit⟩

end Sys2Proof.Machine
end

section
/-! The rotates and shifts (spec/45_extended_rotate_shift.md R176 to R191): the result and the bit moved out, bit by bit
or in numbers, and the one read, the one write back and the flags that all eight have in common. -/

namespace Sys2Proof.Machine

/-! ### The result written back to the operand -/

/-- What an instruction did to the byte at HL does not depend on the flags it leaves. -/
theorem RewroteByteAtHL.setFlags {s t : State} {v : Byte} (h : RewroteByteAtHL s t v) (f : Flags) :
    RewroteByteAtHL s (t.setFlags f) v where
  stored := h.stored.congr rfl rfl
  regs r := (get8_setFlags t f r).trans (h.regs r)
  sp := h.sp
  pc := h.pc
  accesses := h.accesses
  cycles := h.cycles

section
variable (f : RotShift) {s t : State}

/-- On a register all eight write the result to that register alone. -/
theorem wroteRegister_of_rotShift {r : Reg8} (h : rotShift f (.reg r) s = .next t) :
    WroteRegister s t r (f s.flags.c (s.get8 r)).1 8 := by
  cases h
  exact (wroteRegister_set8 s r _ 8).setFlags _

/-- On `(HL)` all eight read the byte and write the result back, and no register changes. -/
theorem rewroteByteAtHL_of_rotShift (h : rotShift f .mem s = .next t) :
    RewroteByteAtHL s t (f s.flags.c (s.peek (s.get16 .hl))).1 := by
  cases h
  exact (rewroteByteAtHL_memWrite s _).setFlags _

end

/-! ### The two rotations of eight bits -/

theorem getLsbD_rlc (cin : Bool) (v : Byte) (i : Nat) (hi : i < 8) :
    (rlc cin v).1.getLsbD ((i + 1) % 8) = v.getLsbD i := by
  rw [rlc, BitVec.getLsbD_or, BitVec.getLsbD_shiftLeft, BitVec.getLsbD_ushiftRight]
  obtain rfl | hlow : i = 7 ∨ i < 7 := by omega
  · simp
  · have hnext : i + 1 < 8 := by omega
    have hout : v.getLsbD (7 + (i + 1)) = false := BitVec.getLsbD_of_ge v _ (by omega)
    simp [Nat.mod_eq_of_lt hnext, hout, hnext]

theorem getLsbD_rrc (cin : Bool) (v : Byte) (i : Nat) (hi : i < 8) :
    (rrc cin v).1.getLsbD i = v.getLsbD ((i + 1) % 8) := by
  rw [rrc, BitVec.getLsbD_or, BitVec.getLsbD_shiftLeft, BitVec.getLsbD_ushiftRight]
  obtain rfl | hlow : i = 7 ∨ i < 7 := by omega
  · simp
  · simp [Nat.mod_eq_of_lt (show i + 1 < 8 by omega), hlow, Nat.add_comm 1 i]

/-- Settles O43: the row is `rlc` on its operand, of which `getLsbD_rlc` says every bit, and Carry is the bit
rotated round. -/
theorem rlcRotatesLeft : Obligations.RlcRotatesLeft := by
  refine fun s => ⟨fun r => ?register, ?memory⟩
  case register => exact ⟨_, _, exec_extOf .rlc (.reg r) s, wroteRegister_of_rotShift rlc rfl, getLsbD_rlc _ _, rfl⟩
  case memory => exact ⟨_, _, exec_extOf .rlc .mem s, rewroteByteAtHL_of_rotShift rlc rfl, getLsbD_rlc _ _, rfl⟩

/-- Settles O44: the row is `rrc` on its operand, of which `getLsbD_rrc` says every bit, and Carry is the bit
rotated round. -/
theorem rrcRotatesRight : Obligations.RrcRotatesRight := by
  refine fun s => ⟨fun r => ?register, ?memory⟩
  case register => exact ⟨_, _, exec_extOf .rrc (.reg r) s, wroteRegister_of_rotShift rrc rfl, getLsbD_rrc _ _, rfl⟩
  case memory => exact ⟨_, _, exec_extOf .rrc .mem s, rewroteByteAtHL_of_rotShift rrc rfl, getLsbD_rrc _ _, rfl⟩

/-! ### The others, in numbers -/

theorem getLsbD_seven_toNat (v : Byte) : (v.getLsbD 7).toNat = v.toNat / 128 := by
  have hbit : (v.getLsbD 7).toNat = v.toNat / 2 ^ 7 % 2 := Nat.toNat_testBit v.toNat 7
  omega

theorem getLsbD_zero_toNat (v : Byte) : (v.getLsbD 0).toNat = v.toNat % 2 := by
  have hbit : (v.getLsbD 0).toNat = v.toNat / 2 ^ 0 % 2 := Nat.toNat_testBit v.toNat 0
  omega

theorem shiftLeft_one_toNat (v : Byte) : (v <<< 1).toNat = 2 * (v.toNat % 128) := by
  rw [BitVec.toNat_shiftLeft, Nat.shiftLeft_eq]
  omega

theorem ushiftRight_one_toNat (v : Byte) : (v >>> 1).toNat = v.toNat / 2 := by
  rw [BitVec.toNat_ushiftRight, Nat.shiftRight_eq_div_pow, pow_one]

/-- The Carry flag as a byte. -/
theorem ofBool_zeroExtend_toNat (c : Bool) : ((BitVec.ofBool c).zeroExtend 8).toNat = c.toNat := by
  cases c <;> rfl

theorem ofBool_shifted_toNat (c : Bool) : ((BitVec.ofBool c).zeroExtend 8 <<< 7).toNat = 128 * c.toNat := by
  cases c <;> rfl

/-- `RL` is a rotation to the left of nine bits, of which Carry is the highest (R180). -/
theorem rl_toNat (cin : Bool) (v : Byte) :
    (rl cin v).2.toNat * 256 + (rl cin v).1.toNat = 2 * v.toNat + cin.toNat := by
  have hres : (rl cin v).1.toNat = 2 * (v.toNat % 128) + cin.toNat := by
    rw [rl, BitVec.toNat_or, shiftLeft_one_toNat, ofBool_zeroExtend_toNat]
    exact (Nat.two_pow_add_eq_or_of_lt (i := 1) cin.toNat_lt _).symm
  have hout : (rl cin v).2.toNat = v.toNat / 128 := getLsbD_seven_toNat v
  omega

/-- `RR` is a rotation to the right of nine bits, of which Carry is the highest (R182). -/
theorem rr_toNat (cin : Bool) (v : Byte) :
    2 * (rr cin v).1.toNat + (rr cin v).2.toNat = v.toNat + cin.toNat * 256 := by
  have hres : (rr cin v).1.toNat = 128 * cin.toNat + v.toNat / 2 := by
    rw [rr, BitVec.toNat_or, ushiftRight_one_toNat, ofBool_shifted_toNat, Nat.or_comm]
    exact (Nat.two_pow_add_eq_or_of_lt (i := 7) (by omega) _).symm
  have hout : (rr cin v).2.toNat = v.toNat % 2 := getLsbD_zero_toNat v
  omega

theorem sla_toNat (cin : Bool) (v : Byte) : (sla cin v).2.toNat * 256 + (sla cin v).1.toNat = 2 * v.toNat := by
  have hres : (sla cin v).1.toNat = 2 * (v.toNat % 128) := shiftLeft_one_toNat v
  have hout : (sla cin v).2.toNat = v.toNat / 128 := getLsbD_seven_toNat v
  omega

theorem srl_toNat (cin : Bool) (v : Byte) : 2 * (srl cin v).1.toNat + (srl cin v).2.toNat = v.toNat := by
  have hres : (srl cin v).1.toNat = v.toNat / 2 := ushiftRight_one_toNat v
  have hout : (srl cin v).2.toNat = v.toNat % 2 := getLsbD_zero_toNat v
  omega

/-- Keeping bit 7 is moving a copy of it in: `SRA` is `RR` with the sign for the old Carry. -/
theorem sra_eq_rr (cin : Bool) (v : Byte) : sra cin v = rr (v.getLsbD 7) v := by
  have hsign : v &&& 0x80 = if v.getLsbD 7 then 0x80 else 0x00 := BitVec.and_twoPow v 7
  rw [sra, rr, hsign]
  cases v.getLsbD 7 <;> rfl

/-- A signed byte is the unsigned one, less 256 where bit 7 is set. -/
theorem byte_toInt (v : Byte) : v.toInt = v.toNat - 256 * ((v.toNat / 128 : Nat) : Int) := by
  rw [BitVec.toInt_eq_toNat_cond]
  split <;> omega

/-- As a rotation of nine bits that copies the sign in, `SRA` halves the signed operand (R186). -/
theorem sra_toInt (cin : Bool) (v : Byte) : 2 * (sra cin v).1.toInt + (sra cin v).2.toNat = v.toInt := by
  have hrr : 2 * (sra cin v).1.toNat + (sra cin v).2.toNat = v.toNat + v.toNat / 128 * 256 := by
    rw [sra_eq_rr, rr_toNat, getLsbD_seven_toNat]
  have hout : (sra cin v).2.toNat = v.toNat % 2 := getLsbD_zero_toNat v
  rw [byte_toInt, byte_toInt]
  omega

theorem swapNibbles_toNat (cin : Bool) (v : Byte) :
    (swapNibbles cin v).1.toNat = v.toNat % 16 * 16 + v.toNat / 16 := by
  have hlow : (v.extractLsb' 0 4).toNat = v.toNat % 16 := BitVec.extractLsb'_toNat 0 4 v
  have hhigh : (v.extractLsb' 4 4).toNat = v.toNat / 16 := by
    rw [BitVec.extractLsb'_toNat, Nat.shiftRight_eq_div_pow]
    omega
  have happend : (swapNibbles cin v).1.toNat = (v.extractLsb' 0 4).toNat <<< 4 ||| (v.extractLsb' 4 4).toNat :=
    BitVec.toNat_append _ _
  rw [happend, hlow, hhigh, ← Nat.shiftLeft_add_eq_or_of_lt (by omega), Nat.shiftLeft_eq]

/-- Settles O45: the row is `rl` of Carry and its operand, a rotation of the nine bits by `rl_toNat`. -/
theorem rlRotatesLeftThroughCarry : Obligations.RlRotatesLeftThroughCarry := by
  refine fun s => ⟨fun r => ?register, ?memory⟩
  case register =>
    exact ⟨_, _, exec_extOf .rl (.reg r) s, wroteRegister_of_rotShift rl rfl, rl_toNat _ _, rfl, rfl, rfl⟩
  case memory => exact ⟨_, _, exec_extOf .rl .mem s, rewroteByteAtHL_of_rotShift rl rfl, rl_toNat _ _, rfl, rfl, rfl⟩

/-- Settles O46: the row is `rr` of Carry and its operand, a rotation of the nine bits by `rr_toNat`. -/
theorem rrRotatesRightThroughCarry : Obligations.RrRotatesRightThroughCarry := by
  refine fun s => ⟨fun r => ?register, ?memory⟩
  case register =>
    exact ⟨_, _, exec_extOf .rr (.reg r) s, wroteRegister_of_rotShift rr rfl, rr_toNat _ _, rfl, rfl, rfl⟩
  case memory => exact ⟨_, _, exec_extOf .rr .mem s, rewroteByteAtHL_of_rotShift rr rfl, rr_toNat _ _, rfl, rfl, rfl⟩

/-- Settles O47: the row is `sra` on its operand, the signed half by `sra_toInt`. -/
theorem sraHalvesSigned : Obligations.SraHalvesSigned := by
  refine fun s => ⟨fun r => ?register, ?memory⟩
  case register =>
    exact ⟨_, _, exec_extOf .sra (.reg r) s, wroteRegister_of_rotShift sra rfl, sra_toInt s.flags.c _, rfl, rfl, rfl⟩
  case memory =>
    exact ⟨_, _, exec_extOf .sra .mem s, rewroteByteAtHL_of_rotShift sra rfl, sra_toInt s.flags.c _, rfl, rfl, rfl⟩

/-- Settles O48: the row is `swapNibbles` on its operand, the nibbles in numbers by `swapNibbles_toNat`. -/
theorem swapExchangesNibbles : Obligations.SwapExchangesNibbles := by
  refine fun s => ⟨fun r => ?register, ?memory⟩
  case register =>
    exact ⟨_, _, exec_extOf .swap (.reg r) s, wroteRegister_of_rotShift swapNibbles rfl, swapNibbles_toNat _ _, rfl⟩
  case memory =>
    exact ⟨_, _, exec_extOf .swap .mem s, rewroteByteAtHL_of_rotShift swapNibbles rfl, swapNibbles_toNat _ _, rfl⟩

/-- Settles O49: the rows are `sla` and `srl` on their operands, in numbers by `sla_toNat` and `srl_toNat`. -/
theorem slaDoublesAndSrlHalves : Obligations.SlaDoublesAndSrlHalves := by
  refine fun s => ⟨fun r => ?slaRegister, ?slaMemory, fun r => ?srlRegister, ?srlMemory⟩
  case slaRegister =>
    exact ⟨_, _, exec_extOf .sla (.reg r) s, wroteRegister_of_rotShift sla rfl, sla_toNat s.flags.c _, rfl, rfl, rfl⟩
  case slaMemory =>
    exact ⟨_, _, exec_extOf .sla .mem s, rewroteByteAtHL_of_rotShift sla rfl, sla_toNat s.flags.c _, rfl, rfl, rfl⟩
  case srlRegister =>
    exact ⟨_, _, exec_extOf .srl (.reg r) s, wroteRegister_of_rotShift srl rfl, srl_toNat s.flags.c _, rfl, rfl, rfl⟩
  case srlMemory =>
    exact ⟨_, _, exec_extOf .srl .mem s, rewroteByteAtHL_of_rotShift srl rfl, srl_toNat s.flags.c _, rfl, rfl, rfl⟩

end Sys2Proof.Machine
end

section
/-! What stops the machine (spec/60_exceptions.md): the two causes of the one fault, the bytes it depends on, and the
refusals, which are the launch's alone. -/

namespace Sys2Proof.Machine

/-! ### The causes of a fault -/

theorem primary_eq_ext_iff (op : Byte) : primary op = some .ext ↔ op = 0xCB :=
  ⟨eq_prefix_of_primary op, fun h => h ▸ rfl⟩

/-- The second cause of R200: 0xCB at PC, and behind it an extended opcode that CB_ROTSHIFT leaves unimplemented. -/
theorem extRefused_iff (s : State) (shape : Shape) (h : primary (s.peek s.pc) = some shape) :
    ExtRefused s shape ↔ s.peek s.pc = 0xCB ∧ (s.peek (s.pc + 1)).toNat < 0x40 ∧
      s.platform.cbRotShift = .unimplemented := by
  rw [ExtRefused, rotShiftRefused_iff, ← primary_eq_ext_iff, h, Option.some_inj]

theorem step_admitted_completes (s : State) (shape : Shape) (h : primary (s.peek s.pc) = some shape)
    (hr : ¬ ExtRefused s shape) : ∃ t, step s = .next t := by
  rw [step_admitted s shape h hr]
  exact exec_completes _ _

/-- Settles O20: a byte without a row faults, a byte with one only as a refused extended opcode, and every other step
completes. -/
theorem stepFaultsForTwoCauses : Obligations.StepFaultsForTwoCauses := by
  refine fun s r => ⟨fun h => ?cause, ?faults⟩
  case cause =>
    cases hp : primary (s.peek s.pc) with
    | none =>
      cases (step_unimplemented s hp).symm.trans h
      exact .inl ⟨(primary_eq_none_iff _).mp hp, rfl⟩
    | some shape =>
      by_cases hr : ExtRefused s shape
      · obtain ⟨hprefix, hgroup, hparam⟩ := (extRefused_iff s shape hp).mp hr
        cases (step_refused s shape hp hr).symm.trans h
        exact .inr ⟨hprefix, hgroup, hparam, rfl⟩
      · obtain ⟨t, ht⟩ := step_admitted_completes s shape hp hr
        cases ht.symm.trans h
  case faults =>
    rintro (⟨hlisted, rfl⟩ | ⟨hprefix, hgroup, hparam, rfl⟩)
    · exact step_unimplemented s ((primary_eq_none_iff _).mpr hlisted)
    · have hp : primary (s.peek s.pc) = some .ext := (primary_eq_ext_iff _).mpr hprefix
      exact step_refused s .ext hp ((extRefused_iff s .ext hp).mpr ⟨hprefix, hgroup, hparam⟩)

/-! ### What a fault depends on -/

theorem fetchLog_one (s : State) : fetchLog s 1 = [{ kind := .fetch, addr := s.pc, byte := s.peek s.pc }] := by
  simp [fetchLog, List.range_succ]

theorem fetchLog_two (s : State) : fetchLog s 2 =
    [{ kind := .fetch, addr := s.pc, byte := s.peek s.pc },
     { kind := .fetch, addr := s.pc + 1, byte := s.peek (s.pc + 1) }] := by
  simp [fetchLog, List.range_succ]

/-- Settles O24: both causes, and the record and reads that go with each, speak only of what the two states share. -/
theorem faultDependsOnTheFetchedBytesAlone : Obligations.FaultDependsOnTheFetchedBytesAlone := by
  intro s t r h hpc hbyte hext
  rw [stepFaultsForTwoCauses] at h ⊢
  obtain ⟨hlisted, rfl⟩ | ⟨hprefix, hgroup, hparam, rfl⟩ := h
  · left
    rw [fetchLog_one, fetchLog_one, hpc, hbyte]
    exact ⟨hlisted, rfl⟩
  · right
    obtain ⟨hbyte', hparam'⟩ := hext hprefix
    rw [fetchLog_two, fetchLog_two, hpc, hbyte, hbyte', hparam']
    exact ⟨hprefix, hgroup, hparam, rfl⟩

/-! ### Completion and the refusals -/

/-- Settles O22: no meaning stops (`exec_completes_with_count`), and a step stops by the fetch's fault alone. -/
theorem everyInstructionCompletes : Obligations.EveryInstructionCompletes := by
  refine ⟨exec_completes_with_count, fun s => ?_⟩
  obtain ⟨t, ht, -⟩ | ⟨prefixed, opcode, reads, hfault⟩ := stepHasTwoOutcomes s
  · exact .inl ⟨t, ht⟩
  · exact .inr ⟨⟨prefixed, opcode, s.pc⟩, reads, hfault⟩

theorem step_ne_refused (s : State) (why : Refusal) : step s ≠ .refused why := by
  intro h
  obtain ⟨t, ht, -⟩ | ⟨prefixed, opcode, reads, hfault⟩ := stepHasTwoOutcomes s
  · cases ht.symm.trans h
  · cases hfault.symm.trans h

theorem launch_malformed (p : Platform) (rom : List Byte) (ram : Memory) (hrom : rom.length ≠ 0x8000) :
    launch p rom ram = .refused .malformedRom := by
  rw [launch, if_neg hrom]

theorem launch_illegal (p : Platform) (rom : List Byte) (ram : Memory) (hrom : rom.length = 0x8000)
    (hp : ¬ legalPlatform p = true) : launch p rom ram = .refused .illegalBacking := by
  rw [launch, if_pos hrom, if_neg hp]

/-- Settles O2: an image of the right length launches, or is refused for its platform. -/
theorem malformedRomRefusesOnlyTheLaunch : Obligations.MalformedRomRefusesOnlyTheLaunch := by
  refine ⟨fun p rom ram => ⟨fun h hrom => ?_, launch_malformed p rom ram⟩, fun s => step_ne_refused s .malformedRom⟩
  by_cases hp : legalPlatform p = true
  · cases (launch_eq_powerUp p rom ram hrom hp).symm.trans h
  · cases (launch_illegal p rom ram hrom hp).symm.trans h

end Sys2Proof.Machine
end

section
/-! Runs on the source's all-inert map: no store is observable (spec/70_reset_and_hazards.md R232). -/

namespace Sys2Proof.Machine

/-- A run of at least one step takes a step that completes, and goes on from there. -/
theorem completesIn_succ_iff (k : Nat) (s t : State) :
    CompletesIn (k + 1) s t ↔ ∃ u, step s = .next u ∧ CompletesIn k u t := by
  constructor
  · intro h
    cases hstep : step s with
    | next u => exact ⟨u, rfl, (completesIn_succ_of_step hstep k t).mp h⟩
    | fault r =>
      have hcore : Sys2Proof.core.step s = .fault r := hstep
      simp only [CompletesIn, Host.Core.run, hcore, reduceCtorEq] at h
    | refused why => exact absurd hstep (step_ne_refused s why)
  · rintro ⟨u, hstep, h⟩
    exact (completesIn_succ_of_step hstep k t).mpr h

/-- What every step keeps, a run keeps. -/
theorem CompletesIn.keeps {P : State → Prop} (hP : ∀ s t, P s → step s = .next t → P t) {k : Nat} {s t : State}
    (hs : P s) (h : CompletesIn k s t) : P t := by
  induction k generalizing s with
  | zero => cases (completesIn_zero s).symm.trans h; exact hs
  | succ k ih =>
    obtain ⟨u, hstep, hrest⟩ := (completesIn_succ_iff k s t).mp h
    exact ih (hP s u hs hstep) hrest

/-- No location of the source's map is a byte cell: ROM discards a write, and every other region is inert. -/
theorem slotOf_allInert_ne_cell (p : Platform) (hp : p.space = .map Backing.allInert) (a x : Word) :
    slotOf p a ≠ .cell x := by
  rw [slotOf_map p _ a hp]
  by_cases hrom : a.toNat ≤ 0x7FFF
  · rw [mapSlot_rom _ a hrom]; exact Slot.noConfusion
  · rw [mapSlot_allInert a hrom]; exact Slot.noConfusion

/-- Where no location is a byte cell an instruction leaves all stored bytes as they were. -/
theorem Effect.mem_of_no_cell {s t : State} (h : Effect s t) (hs : ∀ a x, slotOf s.platform a ≠ .cell x) :
    t.mem = s.mem := by
  obtain ⟨hm, -⟩ | ⟨x, v, hm, -⟩ := h.memory
  · exact hm
  · rw [hm, storeByte_discarded _ _ x v (hs x)]

theorem step_allInert {s t : State} (hs : s.platform.space = .map Backing.allInert) (h : step s = .next t) :
    t.mem = s.mem ∧ t.platform = s.platform := by
  obtain ⟨shape, -, he⟩ := step_effect s t h
  exact ⟨he.mem_of_no_cell (slotOf_allInert_ne_cell s.platform hs), he.platform⟩

/-- Settles O53: what a byte reads as depends on the stored bytes and the parameters, and every step on this map keeps
both. -/
theorem inertMapHidesEveryStore : Obligations.InertMapHidesEveryStore := by
  intro k s t hs h a
  obtain ⟨hmem, hplatform⟩ : t.mem = s.mem ∧ t.platform = s.platform := by
    refine CompletesIn.keeps (P := fun u => u.mem = s.mem ∧ u.platform = s.platform) ?_ ⟨rfl, rfl⟩ h
    rintro u v ⟨hmem, hplatform⟩ hstep
    obtain ⟨hmem', hplatform'⟩ := step_allInert (hplatform ▸ hs) hstep
    exact ⟨hmem'.trans hmem, hplatform'.trans hplatform⟩
  exact peek_congr s t a hmem hplatform

end Sys2Proof.Machine
end

section
/-! The host's placing of a table word at PC (log 11): the placed bytes are the ones the next fetch reads. -/

namespace Sys2Proof.Machine

/-! ### Locations that can hold a placed byte -/

/-- The address reads the byte stored at `x`, be it a cell's or the cartridge image's. -/
def BackedAt (p : Platform) (a x : Word) : Prop := slotOf p a = .cell x ∨ slotOf p a = .rom x

theorem placeable_iff_backedAt (p : Platform) (a : Word) : placeable p a = true ↔ ∃ x, BackedAt p a x := by
  unfold placeable BackedAt
  cases slotOf p a <;> simp

theorem BackedAt.address {p : Platform} {a x : Word} (h : BackedAt p a x) : x = a ∨ x = a - 0x2000 := by
  obtain hcell | hrom := h
  · exact slotOf_cell_address p a x hcell
  · exact .inl (slotOf_rom p a x hrom).1

theorem BackedAt.peek_eq {s : State} {a x : Word} (h : BackedAt s.platform a x) : s.peek a = Memory.byteAt s.mem x := by
  obtain hcell | hrom := h
  · exact peek_of_cell s a x hcell
  · exact peek_of_rom s a x hrom

theorem BackedAt.placeByte_eq {p : Platform} {a x : Word} (h : BackedAt p a x) (m : Memory) (v : Byte) :
    placeByte p m a v = Memory.store m x.toNat v := by
  obtain hslot | hslot := h <;> simp only [placeByte, hslot]

/-! ### Placing three bytes at PC -/

section
variable (s : State) (b₀ b₁ b₂ : Byte)

@[simp] theorem placeAtPc_get8 (r : Reg8) : (s.placeAtPc b₀ b₁ b₂).get8 r = s.get8 r := by cases r <;> rfl
@[simp] theorem placeAtPc_flags : (s.placeAtPc b₀ b₁ b₂).flags = s.flags := rfl
@[simp] theorem placeAtPc_sp : (s.placeAtPc b₀ b₁ b₂).sp = s.sp := rfl
@[simp] theorem placeAtPc_pc : (s.placeAtPc b₀ b₁ b₂).pc = s.pc := rfl

theorem placeAtPc_platform : (s.placeAtPc b₀ b₁ b₂).platform =
    if placeable s.platform s.pc && placeable s.platform (s.pc + 1) && placeable s.platform (s.pc + 2) then s.platform
    else { s.platform with space := .flat } := rfl

theorem placeAtPc_mem : (s.placeAtPc b₀ b₁ b₂).mem =
    placeByte (s.placeAtPc b₀ b₁ b₂).platform (placeByte (s.placeAtPc b₀ b₁ b₂).platform
      (placeByte (s.placeAtPc b₀ b₁ b₂).platform s.mem s.pc b₀) (s.pc + 1) b₁) (s.pc + 2) b₂ := rfl

/-- Placing may launch on FlatRAM, but it keeps CB_ROTSHIFT. -/
@[simp] theorem placeAtPc_cbRotShift : (s.placeAtPc b₀ b₁ b₂).platform.cbRotShift = s.platform.cbRotShift := by
  rw [placeAtPc_platform]
  split <;> rfl

/-- After placing, each of the three addresses reads a stored byte: all three did before, or all are cells of FlatRAM. -/
theorem placeAtPc_backedAt : (∃ x, BackedAt (s.placeAtPc b₀ b₁ b₂).platform s.pc x) ∧
    (∃ x, BackedAt (s.placeAtPc b₀ b₁ b₂).platform (s.pc + 1) x) ∧
    ∃ x, BackedAt (s.placeAtPc b₀ b₁ b₂).platform (s.pc + 2) x := by
  rw [placeAtPc_platform]
  split
  · next h => simpa only [Bool.and_eq_true, and_assoc, placeable_iff_backedAt] using h
  · exact ⟨⟨_, .inl rfl⟩, ⟨_, .inl rfl⟩, ⟨_, .inl rfl⟩⟩

/-- The three placed bytes are read back: neighbouring addresses share no stored byte, since the mirror is 0x2000
away. -/
theorem peek_placeAtPc : (s.placeAtPc b₀ b₁ b₂).peek s.pc = b₀ ∧ (s.placeAtPc b₀ b₁ b₂).peek (s.pc + 1) = b₁ ∧
    (s.placeAtPc b₀ b₁ b₂).peek (s.pc + 2) = b₂ := by
  obtain ⟨⟨x₀, h₀⟩, ⟨x₁, h₁⟩, ⟨x₂, h₂⟩⟩ := placeAtPc_backedAt s b₀ b₁ b₂
  have ha₀ := h₀.address
  have ha₁ := h₁.address
  have ha₂ := h₂.address
  have h₀₁ : x₀ ≠ x₁ := by bv_omega
  have h₀₂ : x₀ ≠ x₂ := by bv_omega
  have h₁₂ : x₁ ≠ x₂ := by bv_omega
  rw [h₀.peek_eq, h₁.peek_eq, h₂.peek_eq, placeAtPc_mem, h₀.placeByte_eq, h₁.placeByte_eq, h₂.placeByte_eq]
  refine ⟨?_, ?_, Memory.byteAt_store_same _ x₂ b₂⟩
  · rw [Memory.byteAt_store_other _ _ _ _ h₀₂, Memory.byteAt_store_other _ _ _ _ h₀₁, Memory.byteAt_store_same]
  · rw [Memory.byteAt_store_other _ _ _ _ h₁₂, Memory.byteAt_store_same]

end

/-! ### The row's word -/

theorem instrBytes_length (nbits w : Nat) : (instrBytes nbits w).length = 3 := by
  rw [instrBytes, List.length_take, List.length_append, List.length_cons, List.length_cons, List.length_singleton]
  omega

/-- `withFetchWord` places the three bytes from which the decoder reads the row's instruction. -/
theorem withFetchWord_eq_placeAtPc (s : State) {nbits w : Nat} {i : Instr} (h : decodeTableWord nbits w = some i) :
    ∃ b₀ b₁ b₂ rest, s.withFetchWord nbits w = s.placeAtPc b₀ b₁ b₂ ∧ decode [b₀, b₁, b₂] = .ok (i, rest) := by
  obtain ⟨b₀, b₁, b₂, hbytes⟩ := List.length_eq_three.mp (instrBytes_length nbits w)
  rw [decodeTableWord, hbytes] at h
  split at h
  · next rest hdecode =>
    cases h
    exact ⟨b₀, b₁, b₂, rest, by rw [State.withFetchWord, hbytes], hdecode⟩
  · cases h

/-- A decoded instruction is encoded by 0xCB and `e` exactly if these two bytes were read. -/
theorem encode_eq_prefix_iff {b₀ b₁ b₂ : Byte} {i : Instr} {rest : List Byte}
    (h : decode [b₀, b₁, b₂] = .ok (i, rest)) (e : Byte) : encode i = [0xCB, e] ↔ b₀ = 0xCB ∧ b₁ = e := by
  constructor
  · intro henc
    obtain ⟨-, hbytes⟩ := decodedBytesAreTheEncoding _ _ _ h
    rw [henc] at hbytes
    cases hbytes
    exact ⟨rfl, rfl⟩
  · rintro ⟨rfl, rfl⟩
    cases (decode_ext rfl b₁ [b₂]).symm.trans h
    exact encode_extended b₁

/-- Settles O23: the next fetch reads the placed bytes (`peek_placeAtPc`), so the step runs what the decoder reads from
them, or is the one refusal of an extended opcode. -/
theorem placedWordRunsNext : Obligations.PlacedWordRunsNext := by
  intro s nbits w i hi
  obtain ⟨b₀, b₁, b₂, rest, hplaced, hdecode⟩ := withFetchWord_eq_placeAtPc s hi
  obtain ⟨hpeek₀, hpeek₁, hpeek₂⟩ := peek_placeAtPc s b₀ b₁ b₂
  rw [hplaced]
  refine ⟨fun hadmitted => ?runs, fun e henc hgroup hparam => ?faults⟩
  case runs =>
    have hstep : step (s.placeAtPc b₀ b₁ b₂) = exec i ((s.placeAtPc b₀ b₁ b₂).afterFetch (3 - rest.length)) := by
      refine stepRunsTheDecodedInstruction _ i rest ?_ ?_ <;> rw [placeAtPc_pc, hpeek₀, hpeek₁]
      · rw [hpeek₂, hdecode]
      · rw [placeAtPc_cbRotShift]
        rintro ⟨hprefix, hgroup, hparam⟩
        exact hadmitted b₁ ((encode_eq_prefix_iff hdecode b₁).mpr ⟨hprefix, rfl⟩) hgroup hparam
    have hlen : 3 - rest.length = (encode i).length := by
      obtain ⟨-, hbytes⟩ := decodedBytesAreTheEncoding _ _ _ hdecode
      have hsum : (encode i).length + rest.length = 3 := by rw [← List.length_append, hbytes]; rfl
      omega
    exact ⟨_, hstep, placeAtPc_get8 s b₀ b₁ b₂, rfl, rfl, by rw [← hlen]; rfl⟩
  case faults =>
    obtain ⟨rfl, rfl⟩ := (encode_eq_prefix_iff hdecode e).mp henc
    rw [stepFaultsForTwoCauses, fetchLog_two, placeAtPc_pc, hpeek₀, hpeek₁, placeAtPc_cbRotShift]
    exact .inr ⟨rfl, hgroup, hparam, rfl⟩

end Sys2Proof.Machine
end
